-- ==== Sys2Proof/Word.lean ====
section
/-! DEFINITION. Bytes, 16-bit words and colours: the plainest value types of the VC7140 model. -/

namespace Sys2Proof

/-- One byte of the link (11_formats_and_command_codes.md). -/
abbrev Byte := BitVec 8

/-- A 16-bit word: the frame counter, the live epoch, a check word, a glyph row. -/
abbrev Word := BitVec 16

/-- A colour of three components 0-255 (Table 32, R78). -/
structure RGB where
  r : Byte
  g : Byte
  b : Byte
  deriving DecidableEq, Repr

/-- Black: the reset fill colour (Table 8). -/
def RGB.black : RGB := ⟨0, 0, 0⟩

end Sys2Proof
end

