-- ==== Sys2Proof/Syntax.lean ====
section
/-! DEFINITION. The commands of the block: one constructor per row of spec/opcode_table.json. The table gives no row an
operand field; an operand here is what the event carries (a line number, a pixel, a run of bytes, the strap value). The
commands of a packet carry none: their operands stand in the payload of the packet in execution (log entry 22). -/

namespace Sys2Proof

/-- One command per row of the opcode table, in the table's order. -/
inductive Instr where
  /-- RESETN_ASSERTED (R116). -/
  | resetnAsserted
  /-- RESETN_RELEASED (R116): `straps` is the value of ADDR3..ADDR0 sampled at the release. -/
  | resetnReleased (straps : BitVec 4)
  /-- INITIALISATION_SWEEP_END (R116). -/
  | initialisationSweepEnd
  /-- FRAME_START (R117): an input FS. -/
  | frameStart
  /-- LINE_START (R119): an input LS carrying its line number. -/
  | lineStart (number : Nat)
  /-- PIXEL (R119): an input PX. -/
  | pixel (colour : RGB)
  /-- LINE_END (R119): an input LE. -/
  | lineEnd
  /-- FRAME_END (R117): an input FE. -/
  | frameEnd
  /-- PACKET_RECEIVED (R125): the end of a packet's delimited run of bytes. -/
  | packetReceived (run : List Byte)
  /-- WATCHDOG_EXPIRY (R121). -/
  | watchdogExpiry
  /-- GENERATED_FRAME_START (R139). -/
  | generatedFrameStart
  /-- GENERATED_SYMBOL (R139): the generator's next LS, PX, LE or FE. -/
  | generatedSymbol
  /-- RELOCK_SWITCH (R124). -/
  | relockSwitch
  /-- APPLY_TEARDOWN (R13). -/
  | applyTeardown
  /-- APPLY_COMMIT (R14). -/
  | applyCommit
  /-- BLINK_TOGGLE (R95). -/
  | blinkToggle
  /-- SESSION_EXPIRY (R155). -/
  | sessionExpiry
  /-- TAKE_HEAD_PACKET (R161). -/
  | takeHeadPacket
  /-- CELL_STEP (R55). -/
  | cellStep
  /-- GLYPH_STEP (R71). -/
  | glyphStep
  /-- CLOSE_SESSION (R170). -/
  | closeSession
  /-- KEEPALIVE (R168). -/
  | keepalive
  /-- IDENTIFY (R169). -/
  | identify
  /-- READ_STATUS (R171). -/
  | readStatus
  /-- CLEAR_COUNTERS (R171): a READ STATUS whose flags name CLEAR COUNTERS. -/
  | clearCounters
  /-- DEVICE_SETTINGS (R122). -/
  | deviceSettings
  /-- RESET_DEVICE (R172). -/
  | resetDevice
  /-- CLAIM_WINDOW (R30). -/
  | claimWindow
  /-- RELEASE_WINDOW (R31). -/
  | releaseWindow
  /-- SET_WINDOW (R32). -/
  | setWindow
  /-- MOVE_WINDOW (R33). -/
  | moveWindow
  /-- SET_SCROLL (R34). -/
  | setScroll
  /-- SET_CURSOR (R35). -/
  | setCursor
  /-- SET_BORDER (R36). -/
  | setBorder
  /-- SET_KEY (R37). -/
  | setKey
  /-- SET_SPLIT (R38). -/
  | setSplit
  /-- CLEAR_PART (R39). -/
  | clearPart
  /-- SHOW_WINDOW (R40). -/
  | showWindow
  /-- HIDE_WINDOW (R41). -/
  | hideWindow
  /-- READ_WINDOW (R42). -/
  | readWindow
  /-- READ_ORDER (R43). -/
  | readOrder
  /-- WRITE_CELLS (R53). -/
  | writeCells
  /-- FILL_CELLS (R56). -/
  | fillCells
  /-- COPY_CELLS (R57). -/
  | copyCells
  /-- READ_CELLS (R54). -/
  | readCells
  /-- FIND_CELLS (R59). -/
  | findCells
  /-- WRITE_GLYPH_ROWS (R69). -/
  | writeGlyphRows
  /-- CLEAR_BANK (R71). -/
  | clearBank
  /-- READ_GLYPH (R73). -/
  | readGlyph
  /-- SET_PALETTE (R85). -/
  | setPalette
  /-- SET_COLOURS (R86). -/
  | setColours
  /-- SET_OPTIONS (R87). -/
  | setOptions
  /-- READ_PALETTE (R88). -/
  | readPalette
  /-- READ_COLOURS (R89). -/
  | readColours
  /-- COMMIT (R8). -/
  | commit
  /-- DISCARD (R10). -/
  | discard
  /-- SYNC_COMMIT (R11). -/
  | syncCommit
  /-- OPEN_SESSION_COMMAND (R163): OPEN SESSION in a packet with a sequence from 1 to 255. -/
  | openSessionCommand
  deriving DecidableEq, Repr

end Sys2Proof
end

