-- ==== Sys2Proof/Config.lean ====
section
/-! DEFINITION. The capacities of Table 4, the constants of IDENTIFY, and the one free value of the model. -/

namespace Sys2Proof

/-- A FREE VALUE with no body. Where the spec lets two things that happen inside one row come in either order, or leaves a
case open, the model asks `freeChoice n` for the n-th such question of the run (`State.draws` counts them). Nothing in
Lean can prove what it answers, so a statement holds whichever way it goes (log entries 5, 6, 7, 15, 26). -/
opaque Config.freeChoice : Nat → Bool

/-- Cells of the Cell Buffer; cell indices are taken modulo this number (R46). -/
def Config.cellCount : Nat := 16384

/-- Glyph rows of the Glyph Store: 8 banks x 256 glyphs x 32 rows (R65). -/
def Config.glyphRowCount : Nat := 65536

/-- Packets the Command Queue holds at most (R162). -/
def Config.commandQueueCapacity : Nat := 4

/-- Reply Queue entries and reservations together, at most (R162). -/
def Config.replyQueueCapacity : Nat := 8

/-- Bytes of read data of one packet, at most (R164). -/
def Config.readDataLimit : Nat := 200

/-- Packets of one gap, at most (R115). -/
def Config.gapLimit : Nat := 3

end Sys2Proof
end

