-- ==== Sys2Proof/Machine/State.lean ====
section
/-! DEFINITION. The state of the VC7140 as plain data, block by block (00_scope.md, Functional Block Diagram), the two
reason types, and the state after reset. Each field's docstring names its rule. -/

namespace Sys2Proof.Machine

/-! ### Link symbols -/

/-- A symbol of the display link (Table 32). A packet is its delimited run of bytes. -/
inductive Symbol where
  | fs
  | ls (number : Nat)
  | px (colour : RGB)
  | le
  | fe
  | pk (run : List Byte)
  deriving DecidableEq, Repr

/-- The geometry of a frame: active width, active lines, first active line, total lines (R113). -/
structure Geometry where
  w : Nat
  h : Nat
  l0 : Nat
  t : Nat
  deriving DecidableEq, Repr

/-! ### Cells, glyphs, colours -/

/-- A sparse store: (key, value) pairs with keys strictly rising and no value equal to what an unlisted key reads as. -/
abbrev Store (α : Type) := List (Nat × α)

/-- A cell record (Table 13); the four flags are one field: bit 0 blink, 1 underline, 2 bank, 3 clear background
(Table 49). -/
structure Cell where
  code : Byte
  fg : BitVec 4
  bg : BitVec 4
  flags : BitVec 4
  deriving DecidableEq, Repr

/-- The cell the initialisation sweep leaves (R47): what an unlisted index reads as. -/
def Cell.clear : Cell := ⟨0, 0, 0, 0⟩

/-- An entry of the output colour table: a colour and a coverage 0-8 (R78). -/
structure ColourEntry where
  colour : RGB
  coverage : Nat
  deriving DecidableEq, Repr

/-! ### Windows and scenes -/

/-- The cursor part (Table 9). -/
structure Cursor where
  cell : Nat
  startLine : Nat
  endLine : Nat
  blink : Bool
  deriving DecidableEq, Repr

/-- The border part (Table 9). -/
structure Border where
  width : Nat
  colour : Byte
  deriving DecidableEq, Repr

/-- The sense of a key (R83). -/
inductive KeySense where
  | isMatch
  | noMatch
  deriving DecidableEq, Repr

/-- The key part (Table 9). -/
structure Key where
  colour : RGB
  mask : RGB
  sense : KeySense
  deriving DecidableEq, Repr

/-- The split part (Table 9). -/
structure Split where
  row : Nat
  base : Nat
  deriving DecidableEq, Repr

/-- A window record (Table 9, R23). -/
structure WindowRecord where
  x : Nat
  y : Nat
  columns : Nat
  rows : Nat
  cellWidth : Nat
  cellHeight : Nat
  pitch : Nat
  base : Nat
  fine : Nat
  bankA : Nat
  bankB : Nat
  palette : Fin 4
  dualBank : Bool
  blinkEnable : Bool
  underlineLine : Nat
  cursor : Option Cursor
  border : Option Border
  key : Option Key
  split : Option Split
  owner : Fin 4
  deriving DecidableEq, Repr

/-- One scene, with every part of Table 5 (R1). -/
structure Scene where
  /-- Window Table: a slot is unclaimed or holds a record (R23). -/
  windows : Vector (Option WindowRecord) 8
  /-- Window Order, front first (R29). -/
  order : List (Fin 8)
  /-- The four palettes of 16 output indices (R77). -/
  palettes : Vector (Vector Byte 16) 4
  /-- Output colour table (R78). -/
  colours : Vector ColourEntry 256
  /-- Index mask (R79). -/
  indexMask : Byte
  /-- Blink period, 2-120 composited frames (R79). -/
  blinkPeriod : Nat
  /-- Fill colour (R79). -/
  fill : RGB
  deriving DecidableEq, Repr

/-- Table 8: the scene after either reset. -/
def Scene.reset : Scene where
  windows := Vector.replicate 8 none
  order := []
  palettes := Vector.replicate 4 (Vector.ofFn fun e => BitVec.ofNat 8 e.1)
  colours := Vector.replicate 256 ⟨RGB.black, 0⟩
  indexMask := 255
  blinkPeriod := 32
  fill := RGB.black

/-- The timing of a commit (R8). -/
inductive CommitMode where
  | next
  | at
  deriving DecidableEq, Repr

/-- The commit record (01, section 1.2). -/
structure CommitRecord where
  pending : Bool
  mode : CommitMode
  target : Word
  issuer : Option (Fin 4)
  deriving DecidableEq, Repr

/-- R3: the cleared record. -/
def CommitRecord.clear : CommitRecord := ⟨false, .next, 0, none⟩

/-- How far the Scene Store has taken the composited frame start in hand (R12; log entry 4). -/
inductive SceneStage where
  /-- No frame start is in hand. -/
  | settled
  /-- Stage 1 is done; stage 2 is next. -/
  | teardownDue
  /-- Stage 2 is done; stage 3 is next. `advanced` says whether the epoch has advanced at this frame start. -/
  | commitDue (advanced : Bool)
  deriving DecidableEq, Repr

/-- The Scene Store (01). -/
structure SceneStore where
  staged : Scene
  live : Scene
  commit : CommitRecord
  /-- Teardown list (R6): a set of slots, held in ascending order without repeats. -/
  teardown : List (Fin 8)
  frameCounter : Word
  epoch : Word
  stage : SceneStage
  deriving DecidableEq, Repr

/-- Table 8. -/
def SceneStore.reset : SceneStore :=
  ⟨Scene.reset, Scene.reset, CommitRecord.clear, [], 0, 0, .settled⟩

/-! ### Sessions, packets and queues -/

/-- What an inserted packet is (Table 38). -/
inductive OutKind where
  | reply
  | notice
  deriving DecidableEq, Repr

/-- A Reply Queue entry, complete with destination, sequence and payload (R162). -/
structure Outgoing where
  kind : OutKind
  dest : Byte
  seq : Byte
  payload : List Byte
  deriving DecidableEq, Repr

/-- The session roles (R143). -/
inductive Role where
  | control
  | client
  deriving DecidableEq, Repr

/-- A Session Table entry (Table 40). -/
structure Session where
  /-- State: OPEN (true) or CLOSED. -/
  isOpen : Bool
  peer : Byte
  role : Role
  nextSeq : Byte
  lastSeq : Byte
  cache : Option Outgoing
  inProgress : Bool
  idle : Nat
  limit : Nat
  overrun : Bool
  noticeLost : Bool
  deriving DecidableEq, Repr

/-- R144: the values of a CLOSED entry. -/
def Session.closed : Session := ⟨false, 0xFF, .client, 1, 0, none, false, 0, 60, false, false⟩

/-- An admitted packet (R146, R150): `session` is none for a packet marked broadcast. -/
structure Packet where
  session : Option (Fin 4)
  seq : Byte
  payload : List Byte
  deriving DecidableEq, Repr

/-- A long command in flight, with its operands and its progress (R55, R71). -/
inductive LongCommand where
  /-- FILL CELLS: `done` steps are complete (R56). -/
  | fill (start count : Nat) (mask : BitVec 4) (cell : Cell) (done : Nat)
  /-- COPY CELLS: `done` steps are complete (R57, R58). -/
  | copy (srcBase srcPitch dstBase dstPitch width height : Nat) (done : Nat)
  /-- FIND CELLS: `done` steps are complete; the matches found and the first of them (R59). -/
  | find (start count : Nat) (pattern : Cell) (mask : BitVec 4) (done matched : Nat) (first : Option Nat)
  /-- CLEAR BANK: codes below `done` are cleared (R71). -/
  | clearBank (bank done : Nat)
  deriving DecidableEq, Repr

/-- The packet in execution (10, section 10.1). -/
structure Executing where
  packet : Packet
  /-- Offset in the payload of the command being executed. -/
  pos : Nat
  /-- Commands carried out so far. -/
  executed : Nat
  /-- The read data of the reply being assembled. -/
  readData : List Byte
  /-- The long command in flight, if any. -/
  long : Option LongCommand
  deriving DecidableEq, Repr

/-- The engine state (R161). -/
inductive Engine where
  | idle
  /-- The head of the Command Queue is to be tested; TAKE_HEAD_PACKET is the test (log entry 12). -/
  | testing
  /-- The engine has reserved a Reply Queue entry for the head, a session packet, before a notice that sought it too;
  TAKE_HEAD_PACKET takes the head (R161; log entry 35). -/
  | reserved
  | waiting
  | executing (x : Executing)
  deriving DecidableEq, Repr

/-! ### Link Receiver -/

/-- The lock state (07, section 7.2). -/
inductive LockState where
  | init
  | search
  | acquire
  | locked
  | holdover
  deriving DecidableEq, Repr

/-- A line that is open: its number and the pixels taken so far. -/
structure OpenLine where
  number : Nat
  pixels : Nat
  deriving DecidableEq, Repr

/-- Where the receiver stands in a frame of the frame form (R113). -/
inductive FramePos where
  /-- After the frame's FE: in the gap before the next FS. -/
  | afterFE
  /-- Within a frame: the number the next LS must carry, and the open line. -/
  | inFrame (next : Nat) (line : Option OpenLine)
  deriving DecidableEq, Repr

/-- The frame in hand while LOCKED (R119): `judged` is false between a switch from HOLDOVER and the next FS (R124). -/
structure LockedFrame where
  judged : Bool
  pos : FramePos
  damaged : Bool
  deriving DecidableEq, Repr

/-- What has been learned of a frame being measured (R117). -/
structure Measure where
  next : Nat
  line : Option OpenLine
  /-- Width, first line and number of the active lines so far; `h` is 0 before the first. -/
  w : Nat
  l0 : Nat
  h : Nat
  /-- A blanking line has followed the active lines. -/
  ended : Bool
  deriving DecidableEq, Repr

/-- Phase of the acquisition tracker (7.2, R117). -/
inductive TrackerPhase where
  | waiting
  | measuring (m : Measure)
  /-- In the gap after the FE of a frame that was well-formed so far. -/
  | gapAfter
  deriving DecidableEq, Repr

/-- The acquisition tracker (7.2). Its match count is 1 exactly when a candidate is held. -/
structure Tracker where
  phase : TrackerPhase
  candidate : Option Geometry
  deriving DecidableEq, Repr

/-- R116: waiting for an FS, with no candidate and count 0. -/
def Tracker.reset : Tracker := ⟨.waiting, none⟩

/-- The Link Receiver (7.2). -/
structure Receiver where
  lock : LockState
  /-- Learned geometry; the held geometry in HOLDOVER. -/
  geometry : Option Geometry
  tracker : Tracker
  /-- The geometry of a successful background acquisition that awaits the switch (R124). -/
  acquired : Option Geometry
  /-- Frame watchdog: none when stopped, else the length in ms of the running interval (R121). -/
  watchdog : Option Nat
  /-- Damaged-frame run, 1 as true (R120). -/
  run : Bool
  checkFailures : Word
  damagedFrames : Word
  frame : LockedFrame
  /-- Packets taken in the gap in hand (R115). -/
  gapPackets : Nat
  deriving DecidableEq, Repr

/-- R116; the last two fields are the model's choice (log entry 8). -/
def Receiver.reset : Receiver :=
  ⟨.init, none, Tracker.reset, none, none, false, 0, 0, ⟨true, .afterFE, false⟩, 0⟩

/-- The device settings (R122). -/
structure DeviceSettings where
  fallback : Bool
  /-- Fallback period in microseconds. -/
  period : Nat
  /-- Frame watchdog in milliseconds. -/
  watchdog : Nat
  deriving DecidableEq, Repr

/-- R122: the settings after either reset. -/
def DeviceSettings.reset : DeviceSettings := ⟨false, 16667, 100⟩

/-! ### Compositor -/

/-- The frame state (R92). -/
inductive FrameState where
  | idle
  | drawing
  | stopped
  deriving DecidableEq, Repr

/-- The region of a window's content (R99, R100). -/
inductive Region where
  | upper
  | split
  deriving DecidableEq, Repr

/-- A row state (R98): region, row number and first cell index of the row fetched. -/
structure RowState where
  region : Region
  row : Nat
  first : Nat
  deriving DecidableEq, Repr

/-- A Row Cache entry (R98): a cell value and the index it was copied from. -/
structure CacheEntry where
  cell : Cell
  index : Nat
  deriving DecidableEq, Repr

/-- The glyph row read for a cell column on the line in hand (R75). -/
structure GlyphRead where
  column : Nat
  dots : Word
  deriving DecidableEq, Repr

/-- The Compositor (06). -/
structure Compositor where
  frame : FrameState
  /-- The geometry in force for the frame, fixed at its start (R94). -/
  geometry : Option Geometry
  /-- Row Caches, by slot (R98). -/
  caches : Vector (List CacheEntry) 8
  /-- Row states, by slot: none is "no row fetched" (R98). -/
  rows : Vector (Option RowState) 8
  /-- Row fetches of the line in hand not yet taken (R101; log entry 7). -/
  owed : List (Fin 8 × RowState)
  /-- The glyph read of the cell in hand, by slot (R75). -/
  reads : Vector (Option GlyphRead) 8
  blinkCounter : Nat
  /-- Blink phase: ON (true) or OFF. -/
  blinkOn : Bool
  deriving DecidableEq, Repr

/-- Table 30, after hard reset; the geometry is the model's choice (log entry 8). -/
def Compositor.reset : Compositor :=
  ⟨.idle, none, Vector.replicate 8 [], Vector.replicate 8 none, [], Vector.replicate 8 none, 0, true⟩

/-! ### Link Transmitter -/

/-- Output modes (Table 37). -/
inductive OutputMode where
  | bypass
  | pass
  | compose
  | generate
  | await
  deriving DecidableEq, Repr

/-- The kinds of gap (R134). -/
inductive GapKind where
  | blanking
  | activeLine
  | other
  deriving DecidableEq, Repr

/-- Gap assembly while the output stands in a gap: its kind and the forwarded packets placed in it (8.1). -/
structure Gap where
  kind : GapKind
  forwarded : List (List Byte)
  deriving DecidableEq, Repr

/-- The position of the generator in the frame (R139): the next thing it emits. -/
inductive GenPos where
  /-- No frame begun yet: the first FS is next (R138). -/
  | start
  /-- The LS of line `k` is next. -/
  | line (k : Nat)
  /-- Pixel `x` of line `k` is next. -/
  | pixel (k x : Nat)
  /-- The LE of line `k` is next. -/
  | lineEnd (k : Nat)
  /-- The FE is next. -/
  | frameEnd
  /-- In the blanking gap after the FE; the period has still to end. -/
  | ended
  deriving DecidableEq, Repr

/-- Generator state (8.1). -/
inductive Generator where
  | idle
  /-- RUNNING: the held geometry, the position, and the length of the current period in microseconds (R140). -/
  | running (g : Geometry) (pos : GenPos) (period : Nat)
  deriving DecidableEq, Repr

/-- The Link Transmitter (08). -/
structure Transmitter where
  mode : OutputMode
  gap : Option Gap
  generator : Generator
  /-- An output FS has been sent and its FE has not (R138). -/
  frameOpen : Bool
  /-- An output LS has been sent and its LE has not (R138). -/
  lineOpen : Bool
  /-- A pixel has been sent since the last FS, LS, LE or FE (R134; log entry 30). -/
  linePixels : Bool
  deriving DecidableEq, Repr

/-- 8.1: not in a gap, generator IDLE, BYPASS. -/
def Transmitter.reset : Transmitter := ⟨.bypass, none, .idle, false, false, false⟩

/-! ### The whole part -/

/-- The state of the part. -/
structure State where
  /-- RESETn level: true while asserted (R116). -/
  resetn : Bool
  /-- Unit address, fixed at the release of RESETn (R116). -/
  unitAddress : Byte
  scene : SceneStore
  /-- Cell Buffer, by index (R46). -/
  cells : Store Cell
  /-- Glyph Store, by (bank x 256 + code) x 32 + row (R65). -/
  glyphs : Store Word
  sessions : Vector Session 4
  /-- Peers expired at the frame start in hand, whose SESSION_ENDED notices are still to be offered (R156). -/
  expired : List Byte
  engine : Engine
  commandQueue : List Packet
  replyQueue : List Outgoing
  settings : DeviceSettings
  rx : Receiver
  comp : Compositor
  tx : Transmitter
  /-- LINK OUT: the symbols driven by the step last taken (log entry 19). -/
  linkOut : List Symbol
  /-- The model's own: how many free choices have been drawn (log entry 26). -/
  draws : Nat
  /-- The commands waiting, first in first out (the row's queue). -/
  pending : List Instr
  deriving DecidableEq, Repr

/-- The part right after the assertion of RESETn at power-up (R116, R21, R144, R111, 8.1; log entries 8 and 9). -/
def State.reset : State where
  resetn := true
  unitAddress := 0x80
  scene := SceneStore.reset
  cells := []
  glyphs := []
  sessions := Vector.replicate 4 Session.closed
  expired := []
  engine := .idle
  commandQueue := []
  replyQueue := []
  settings := DeviceSettings.reset
  rx := Receiver.reset
  comp := Compositor.reset
  tx := Transmitter.reset
  linkOut := []
  draws := 0
  pending := []

/-- Reasons a step stops the machine. The spec gives this part none: every symbol, packet, refused command and loss of
input leaves it running (log entry 29), so there is no constructor. -/
inductive Fault where
  deriving DecidableEq, Repr

/-- Reasons a command has no meaning in the model. -/
inductive Refusal where
  /-- Raised by `exec` alone, for a row that has no meaning yet. Safe: the run stops. No row raises it. -/
  | notModelled (mnemonic : String)
  deriving DecidableEq, Repr

end Sys2Proof.Machine
end

