-- ==== Sys2Proof/Machine/Operands.lean ====
section
/-! DEFINITION. Bytes on the link and what they mean: byte order, the check word, packets, cells, masks, colour entries,
the operand bytes of Table 52 and their ranges (11_formats_and_command_codes.md), and the layouts the part writes. -/

namespace Sys2Proof.Machine

/-! ### Byte order (00_scope.md, Conventions: high byte first) -/

/-- The value of two bytes. -/
def be16 (hi lo : Byte) : Nat := hi.toNat * 256 + lo.toNat

/-- The value of four bytes. -/
def be32 (a b c d : Byte) : Nat := be16 a b * 65536 + be16 c d

/-- A value 0-65535 as two bytes. -/
def bytes16 (n : Nat) : List Byte := [BitVec.ofNat 8 (n / 256), BitVec.ofNat 8 n]

/-- A value 0-255 as one byte. -/
def byte (n : Nat) : Byte := BitVec.ofNat 8 n

/-! ### Check word (R173) -/

/-- One data bit: compare it with bit 15, shift left, and combine with 0x1021 where they differed. -/
def crcBit (reg : Word) (b : Bool) : Word :=
  if reg.getLsbD 15 == b then reg <<< 1 else (reg <<< 1) ^^^ 0x1021

/-- One byte, bit 7 first. -/
def crcByte (reg : Word) (x : Byte) : Word :=
  [7, 6, 5, 4, 3, 2, 1, 0].foldl (fun r i => crcBit r (x.getLsbD i)) reg

/-- The check word of a run of bytes. -/
def checkWord (bytes : List Byte) : Word := bytes.foldl crcByte 0xFFFF

/-! ### Packets (Table 48) -/

/-- Packet kinds. -/
def kindCommand : Byte := 0xC1
def kindReply : Byte := 0xA5
def kindNotice : Byte := 0xA6

/-- What the receiver makes of a run of bytes (R173). -/
inductive RunJudgement where
  | overrun
  | bad
  | good (kind dest source seq : Byte) (payload : List Byte)
  deriving DecidableEq, Repr

/-- R173, with R125's definition of a bad packet: overrun first, then length, then check word. -/
def judgeRun (run : List Byte) : RunJudgement :=
  if 247 < run.length then .overrun else
  match run with
  | kind :: dest :: source :: seq :: len :: rest =>
    if 240 < len.toNat then .overrun
    else if rest.length = len.toNat + 2 then
      if be16 (rest.getD len.toNat 0) (rest.getD (len.toNat + 1) 0)
          = (checkWord (run.take (5 + len.toNat))).toNat
      then .good kind dest source seq (rest.take len.toNat)
      else .bad
    else .bad
  | _ => .bad

/-- The bytes of a packet with its check word (Table 48, R136). -/
def packetBytes (kind dest source seq : Byte) (payload : List Byte) : List Byte :=
  let body := kind :: dest :: source :: seq :: byte payload.length :: payload
  body ++ bytes16 (checkWord body).toNat

/-- R145: 0x00, 0xFF and the unit addresses 0x80-0x8F are no controller addresses. -/
def controllerAddress (a : Byte) : Bool :=
  a ≠ 0x00 ∧ a ≠ 0xFF ∧ ¬ (0x80 ≤ a.toNat ∧ a.toNat ≤ 0x8F)

/-! ### Command codes (Table 52) -/

def codeOpenSession : Byte := 0x01
def codeCloseSession : Byte := 0x02
def codeKeepalive : Byte := 0x03
def codeIdentify : Byte := 0x04
def codeReadStatus : Byte := 0x05
def codeDeviceSettings : Byte := 0x06
def codeResetDevice : Byte := 0x07
def codeClaimWindow : Byte := 0x10
def codeReleaseWindow : Byte := 0x11
def codeSetWindow : Byte := 0x12
def codeMoveWindow : Byte := 0x13
def codeSetScroll : Byte := 0x14
def codeSetCursor : Byte := 0x15
def codeSetBorder : Byte := 0x16
def codeSetKey : Byte := 0x17
def codeSetSplit : Byte := 0x18
def codeClearPart : Byte := 0x19
def codeShowWindow : Byte := 0x1A
def codeHideWindow : Byte := 0x1B
def codeReadWindow : Byte := 0x1C
def codeReadOrder : Byte := 0x1D
def codeWriteCells : Byte := 0x20
def codeFillCells : Byte := 0x21
def codeCopyCells : Byte := 0x22
def codeReadCells : Byte := 0x23
def codeFindCells : Byte := 0x24
def codeWriteGlyphRows : Byte := 0x30
def codeClearBank : Byte := 0x31
def codeReadGlyph : Byte := 0x32
def codeSetPalette : Byte := 0x40
def codeSetColours : Byte := 0x41
def codeSetOptions : Byte := 0x42
def codeReadPalette : Byte := 0x43
def codeReadColours : Byte := 0x44
def codeCommit : Byte := 0x50
def codeDiscard : Byte := 0x51
def codeSyncCommit : Byte := 0x52

/-- The codes of Table 52: check 1 (R174). -/
def knownCodes : List Byte :=
  [0x01, 0x02, 0x03, 0x04, 0x05, 0x06, 0x07,
   0x10, 0x11, 0x12, 0x13, 0x14, 0x15, 0x16, 0x17, 0x18, 0x19, 0x1A, 0x1B, 0x1C, 0x1D,
   0x20, 0x21, 0x22, 0x23, 0x24,
   0x30, 0x31, 0x32,
   0x40, 0x41, 0x42, 0x43, 0x44,
   0x50, 0x51, 0x52]

/-- The operand bytes of the command at the head of `payload`: none where the length byte is missing or carries them past
the end of the payload (R174). -/
def operandsOf (payload : List Byte) : Option (List Byte) :=
  match payload with
  | _ :: len :: rest => if len.toNat ≤ rest.length then some (rest.take len.toNat) else none
  | _ => none

/-- Bytes the command at the head of `payload` takes: code, length byte and operands (R174). -/
def commandLength (payload : List Byte) : Nat :=
  match payload with
  | _ :: len :: _ => 2 + len.toNat
  | _ => 1

/-! ### Operand bytes (R174): `none` where check 2 refuses the value -/

/-- A yes/no byte. -/
def yesNo (b : Byte) : Option Bool :=
  if b = 0 then some false else if b = 1 then some true else none

/-- A scene selector: `some true` selects the live scene. -/
def sceneSelector (b : Byte) : Option Bool :=
  if b = 0 then some false else if b = 1 then some true else none

/-- The role of OPEN SESSION. -/
def roleOf (b : Byte) : Option Role :=
  if b = 1 then some .control else if b = 2 then some .client else none

/-- The COMMIT mode. -/
def commitModeOf (b : Byte) : Option CommitMode :=
  if b = 0 then some .next else if b = 1 then some .at else none

/-- The mode as READ STATUS reports it (Table 52, note 3). -/
def commitModeByte : CommitMode → Byte
  | .next => 0
  | .at => 1

/-- The optional parts, as CLEAR PART names them. -/
inductive PartName where
  | cursor
  | border
  | key
  | split
  deriving DecidableEq, Repr

/-- The CLEAR PART part. -/
def partOf (b : Byte) : Option PartName :=
  if b = 0 then some .cursor else if b = 1 then some .border
  else if b = 2 then some .key else if b = 3 then some .split else none

/-- The placements of SHOW WINDOW (R40). -/
inductive Placement where
  | front
  | back
  | above (reference : Fin 8)
  | below (reference : Fin 8)
  deriving DecidableEq, Repr

/-- A slot number 0-7 (R27). -/
def slotOf (b : Byte) : Option (Fin 8) :=
  if h : b.toNat < 8 then some ⟨b.toNat, h⟩ else none

/-- A palette number 0-3 (R85). -/
def paletteOf (b : Byte) : Option (Fin 4) :=
  if h : b.toNat < 4 then some ⟨b.toNat, h⟩ else none

/-- The SHOW WINDOW placement and its reference, for the slot being shown: the reference is ignored with FRONT and BACK,
and must be another slot with ABOVE and BELOW (R40). -/
def placementOf (slot : Fin 8) (placement reference : Byte) : Option Placement :=
  if placement = 0 then some .front
  else if placement = 1 then some .back
  else if placement = 2 ∨ placement = 3 then
    match slotOf reference with
    | some r =>
      if r = slot then none else if placement = 2 then some (.above r) else some (.below r)
    | none => none
  else none

/-- The glyph operations (Table 19). -/
inductive GlyphOp where
  | replace
  | and
  | or
  | xor
  deriving DecidableEq, Repr

/-- The glyph operation byte. -/
def glyphOpOf (b : Byte) : Option GlyphOp :=
  if b = 0 then some .replace else if b = 1 then some .and
  else if b = 2 then some .or else if b = 3 then some .xor else none

/-- The key sense byte. -/
def keySenseOf (b : Byte) : Option KeySense :=
  if b = 0 then some .isMatch else if b = 1 then some .noMatch else none

/-- The key sense as READ WINDOW reports it. -/
def keySenseByte : KeySense → Byte
  | .isMatch => 0
  | .noMatch => 1

/-- A cell index 0-16383. -/
def cellIndexOf (hi lo : Byte) : Option Nat :=
  if be16 hi lo ≤ 16383 then some (be16 hi lo) else none

/-! ### Cells, masks, colour entries (Table 49) -/

/-- Three bytes as a cell; bits 4-7 of the flags byte must be 0 (R50). -/
def cellOf (code colours flags : Byte) : Option Cell :=
  if flags.toNat < 16 then
    some ⟨code, colours.extractLsb' 0 4, colours.extractLsb' 4 4, flags.extractLsb' 0 4⟩
  else none

/-- The three-byte wire form of a cell (R54). -/
def cellBytes (c : Cell) : List Byte :=
  [c.code, c.bg ++ c.fg, c.flags.setWidth 8]

/-- A list of three-byte cells: none where the length is no multiple of three or a cell is refused (R53). -/
def cellsOf : List Byte → Option (List Cell)
  | [] => some []
  | a :: b :: c :: rest =>
    match cellOf a b c, cellsOf rest with
    | some x, some xs => some (x :: xs)
    | _, _ => none
  | _ => none

/-- A care mask byte: bits 4-7 must be 0 (R49). -/
def careMaskOf (b : Byte) : Option (BitVec 4) :=
  if b.toNat < 16 then some (b.extractLsb' 0 4) else none

/-- A field mask byte: as a care mask, and naming at least one field (R48). -/
def fieldMaskOf (b : Byte) : Option (BitVec 4) :=
  if b = 0 then none else careMaskOf b

/-- Four-byte colour entries, each coverage 0-8 (R86). -/
def colourEntriesOf : List Byte → Option (List ColourEntry)
  | [] => some []
  | r :: g :: b :: c :: rest =>
    if c.toNat ≤ 8 then
      match colourEntriesOf rest with
      | some xs => some (⟨⟨r, g, b⟩, c.toNat⟩ :: xs)
      | none => none
    else none
  | _ => none

/-- The four bytes of a colour entry. -/
def colourEntryBytes (e : ColourEntry) : List Byte := [e.colour.r, e.colour.g, e.colour.b, byte e.coverage]

/-- Two-byte glyph rows; none for an odd length (R69). -/
def glyphRowsOf : List Byte → Option (List Word)
  | [] => some []
  | hi :: lo :: rest =>
    match glyphRowsOf rest with
    | some xs => some ((hi ++ lo : Word) :: xs)
    | none => none
  | _ => none

/-- The two bytes of a glyph row. -/
def glyphRowBytes (w : Word) : List Byte := [w.extractLsb' 8 8, w.extractLsb' 0 8]

/-! ### Window operands (Table 50) -/

/-- The record group of SET WINDOW with check 2 of R32: the non-optional fields, to be laid over `old`, whose optional
parts and owner stay. -/
def recordGroupOf (old : WindowRecord) (ops : List Byte) : Option WindowRecord :=
  match ops with
  | [xh, xl, yh, yl, cols, rows, cw, ch, pitch, bh, bl, fine, ba, bb, pal, opts, ul] =>
    match paletteOf pal with
    | some p =>
      if be16 xh xl ≤ 4095 ∧ be16 yh yl ≤ 2303
        ∧ 1 ≤ cols.toNat ∧ cols.toNat ≤ 160 ∧ 1 ≤ rows.toNat ∧ rows.toNat ≤ 120
        ∧ 4 ≤ cw.toNat ∧ cw.toNat ≤ 16 ∧ 4 ≤ ch.toNat ∧ ch.toNat ≤ 32
        ∧ cols.toNat ≤ pitch.toNat ∧ be16 bh bl ≤ 16383 ∧ fine.toNat < ch.toNat
        ∧ ba.toNat ≤ 7 ∧ bb.toNat ≤ 7 ∧ opts.toNat < 4 ∧ ul.toNat ≤ 31
        ∧ rows.toNat * ch.toNat ≤ 2304
      then some { old with
        x := be16 xh xl, y := be16 yh yl, columns := cols.toNat, rows := rows.toNat,
        cellWidth := cw.toNat, cellHeight := ch.toNat, pitch := pitch.toNat, base := be16 bh bl,
        fine := fine.toNat, bankA := ba.toNat, bankB := bb.toNat, palette := p,
        dualBank := opts.getLsbD 0, blinkEnable := opts.getLsbD 1, underlineLine := ul.toNat }
      else none
    | none => none
  | _ => none

/-- The cursor group (R35). -/
def cursorOf (ch cl start stop blink : Byte) : Option Cursor :=
  match cellIndexOf ch cl, yesNo blink with
  | some c, some b =>
    if start.toNat ≤ 31 ∧ stop.toNat ≤ 31 then some ⟨c, start.toNat, stop.toNat, b⟩ else none
  | _, _ => none

/-- The border group (R36). -/
def borderOf (width colour : Byte) : Option Border :=
  if 1 ≤ width.toNat ∧ width.toNat ≤ 8 then some ⟨width.toNat, colour⟩ else none

/-- The key group (R37). -/
def keyOf (kr kg kb mr mg mb sense : Byte) : Option Key :=
  match keySenseOf sense with
  | some k => some ⟨⟨kr, kg, kb⟩, ⟨mr, mg, mb⟩, k⟩
  | none => none

/-- The split group (R38). -/
def splitOf (row bh bl : Byte) : Option Split :=
  match cellIndexOf bh bl with
  | some b => if 1 ≤ row.toNat ∧ row.toNat ≤ 119 then some ⟨row.toNat, b⟩ else none
  | none => none

/-! ### READ WINDOW data (Tables 50 and 51) -/

/-- A yes/no or presence bit. -/
def bit (b : Bool) : Byte := if b then 1 else 0

/-- The 17-byte record group. -/
def recordGroupBytes (r : WindowRecord) : List Byte :=
  bytes16 r.x ++ bytes16 r.y ++ [byte r.columns, byte r.rows, byte r.cellWidth, byte r.cellHeight, byte r.pitch]
    ++ bytes16 r.base ++ [byte r.fine, byte r.bankA, byte r.bankB, byte r.palette.1,
      bit r.dualBank + 2 * bit r.blinkEnable, byte r.underlineLine]

/-- The cursor group; 0 where absent. -/
def cursorBytes : Option Cursor → List Byte
  | some c => bytes16 c.cell ++ [byte c.startLine, byte c.endLine, bit c.blink]
  | none => List.replicate 5 0

/-- The border group; 0 where absent. -/
def borderBytes : Option Border → List Byte
  | some b => [byte b.width, b.colour]
  | none => List.replicate 2 0

/-- The key group; 0 where absent. -/
def keyBytes : Option Key → List Byte
  | some k => [k.colour.r, k.colour.g, k.colour.b, k.mask.r, k.mask.g, k.mask.b, keySenseByte k.sense]
  | none => List.replicate 7 0

/-- The split group; 0 where absent. -/
def splitBytes : Option Split → List Byte
  | some p => byte p.row :: bytes16 p.base
  | none => List.replicate 3 0

/-- The 39 bytes of READ WINDOW: `peer` is the owner entry's peer address, `torn` the teardown flag (Table 51, R42). -/
def windowBytes (w : Option WindowRecord) (peer : Byte) (torn : Bool) : List Byte :=
  match w with
  | some r =>
    [1, byte r.owner.1, peer, bit torn] ++ recordGroupBytes r
      ++ [bit r.cursor.isSome + 2 * bit r.border.isSome + 4 * bit r.key.isSome + 8 * bit r.split.isSome]
      ++ cursorBytes r.cursor ++ borderBytes r.border ++ keyBytes r.key ++ splitBytes r.split
  | none => [0, 0, 0xFF, 0] ++ List.replicate 35 0

/-- The lock state byte (Table 52, note 3); INIT is never reported. -/
def lockByte : LockState → Byte
  | .init => 0
  | .search => 1
  | .acquire => 2
  | .locked => 3
  | .holdover => 4

/-- A geometry as four two-byte fields; all 0 when none (Table 46, Table 55). -/
def geometryBytes : Option Geometry → List Byte
  | some g => bytes16 g.w ++ bytes16 g.h ++ bytes16 g.l0 ++ bytes16 g.t
  | none => List.replicate 8 0

end Sys2Proof.Machine
end

