-- ==== Sys2Proof/Machine/Flags.lean ====
section
/-! DEFINITION. Status codes, the flags byte and the payloads of replies and notices, the saturating link counters, the
sequence successor, and the due test of a commit. -/

namespace Sys2Proof.Machine

/-- The statuses of Table 54. -/
inductive Status where
  | ok
  | badCommand
  | badOperand
  | notPermitted
  | notOwner
  | noWindow
  | noSlot
  | stageSealed
  | commitPending
  | outOfExtent
  | tooLarge
  | noSession
  | tableFull
  | roleTaken
  | outOfSequence
  | badOpen
  | notShown
  deriving DecidableEq, Repr

/-- Table 54. -/
def Status.byte : Status → Byte
  | .ok => 0x00
  | .badCommand => 0x01
  | .badOperand => 0x02
  | .notPermitted => 0x03
  | .notOwner => 0x04
  | .noWindow => 0x05
  | .noSlot => 0x06
  | .stageSealed => 0x07
  | .commitPending => 0x08
  | .outOfExtent => 0x09
  | .tooLarge => 0x0A
  | .noSession => 0x0B
  | .tableFull => 0x0C
  | .roleTaken => 0x0D
  | .outOfSequence => 0x0E
  | .badOpen => 0x0F
  | .notShown => 0x10

/-- The flags byte: bit 0 OVERRUN, bit 1 NOTICE_LOST, bit 2 COMMIT_PENDING, the rest 0 (Table 53, R175). -/
def flagsByte (overrun noticeLost commitPending : Bool) : Byte :=
  bit overrun + 2 * bit noticeLost + 4 * bit commitPending

/-- The reply payload (Table 53). -/
def replyPayload (status : Status) (failed executed : Nat) (flags : Byte) (epoch frame : Word) (data : List Byte) :
    List Byte :=
  [status.byte, byte failed, byte executed, flags] ++ bytes16 epoch.toNat ++ bytes16 frame.toNat
    ++ byte data.length :: data

/-- The COMMITTED notice (Table 55). -/
def committedPayload (epoch frame : Word) : List Byte := 0x01 :: (bytes16 epoch.toNat ++ bytes16 frame.toNat)

/-- The SESSION_ENDED notice, reason EXPIRED (Table 55). -/
def sessionEndedPayload (peer : Byte) : List Byte := [0x02, peer, 0x01]

/-- The LOCK_CHANGED notice: the geometry is carried with LOCKED alone (Table 55, R128, R175). -/
def lockChangedPayload (lock : LockState) (g : Option Geometry) : List Byte :=
  0x03 :: lockByte lock :: geometryBytes (if lock = .locked then g else none)

/-- A link counter advanced by one, saturating at 65535 (R127). -/
def saturate (w : Word) : Word := if w = 0xFFFF then w else w + 1

/-- The sequence after `q`: 1, 2, ... 255 and then 1 (Table 40, note 2). -/
def nextSequence (q : Byte) : Byte := if q = 0xFF then 1 else q + 1

/-- R9: whether a pending commit of this mode and target is due with the advanced counter. -/
def commitDue (mode : CommitMode) (target counter : Word) : Bool :=
  match mode with
  | .next => true
  | .at => (counter - target).toNat < 32768

end Sys2Proof.Machine
end

