-- ==== Sys2Proof/Machine/Ops.lean ====
section
/-! DEFINITION. The operations the families share: the sparse stores, extents, sessions and notices, the queues, the Scene
Store's handling of a composited frame start (R12), session end and teardown (R157, R17), and the Command Engine's way of
taking, refusing, carrying out and ending the commands of a packet (R161 to R165). -/

namespace Sys2Proof.Machine

/-- The outcome of a row. -/
abbrev Result := Host.Outcome State Fault Refusal

/-! ### Sparse stores -/

/-- The value held at a key: `d` where the key is not listed. -/
def Store.read {α : Type} (d : α) : Store α → Nat → α
  | [], _ => d
  | (k, v) :: rest, a => if k = a then v else Store.read d rest a

/-- Write a value at a key, keeping keys rising and listing no value equal to `d`. -/
def Store.write {α : Type} [DecidableEq α] (d : α) : Store α → Nat → α → Store α
  | [], a, v => if v = d then [] else [(a, v)]
  | (k, w) :: rest, a, v =>
    if a < k then (if v = d then (k, w) :: rest else (a, v) :: (k, w) :: rest)
    else if a = k then (if v = d then rest else (a, v) :: rest)
    else (k, w) :: Store.write d rest a v

/-- The canonical form: keys strictly rising and below `bound`, and no value equal to what an unlisted key reads as. -/
abbrev Store.wf {α : Type} (d : α) (bound : Nat) (m : Store α) : Prop :=
  m.Pairwise (fun p q => p.1 < q.1) ∧ ∀ p ∈ m, p.1 < bound ∧ p.2 ≠ d

/-! ### Cells and glyph rows -/

/-- Cell indices are taken modulo 16,384 (R46). -/
def cellIndex (n : Nat) : Nat := n % Config.cellCount

/-- The cell at an index. -/
def cellAt (m : Store Cell) (i : Nat) : Cell := Store.read Cell.clear m (cellIndex i)

/-- Write a cell at an index. -/
def setCell (m : Store Cell) (i : Nat) (c : Cell) : Store Cell := Store.write Cell.clear m (cellIndex i) c

/-- R48: the fields named in the mask take the new value, the others keep the old. -/
def mergeCell (mask : BitVec 4) (new old : Cell) : Cell :=
  { code := if mask.getLsbD 0 then new.code else old.code
    fg := if mask.getLsbD 1 then new.fg else old.fg
    bg := if mask.getLsbD 2 then new.bg else old.bg
    flags := if mask.getLsbD 3 then new.flags else old.flags }

/-- R49: the cell equals the pattern in every field named. -/
def cellMatches (mask : BitVec 4) (pattern c : Cell) : Bool :=
  (!mask.getLsbD 0 || c.code == pattern.code) && (!mask.getLsbD 1 || c.fg == pattern.fg)
    && (!mask.getLsbD 2 || c.bg == pattern.bg) && (!mask.getLsbD 3 || c.flags == pattern.flags)

/-- The key of a glyph row (R65). -/
def glyphKey (bank code row : Nat) : Nat := (bank * 256 + code) * 32 + row

/-- A glyph row. -/
def glyphRow (m : Store Word) (bank code row : Nat) : Word := Store.read 0 m (glyphKey bank code row)

/-- Write a glyph row. -/
def setGlyphRow (m : Store Word) (bank code row : Nat) (w : Word) : Store Word :=
  Store.write 0 m (glyphKey bank code row) w

/-! ### Slots, entries, extents -/

/-- The slots 0 to 7. -/
def allSlots : List (Fin 8) := [0, 1, 2, 3, 4, 5, 6, 7]

/-- The Session Table entries 0 to 3. -/
def allEntries : List (Fin 4) := [0, 1, 2, 3]

/-- Whether an index lies in the range of `count` cells from `start`, modulo 16,384 (R46). -/
def inRange (start count index : Nat) : Bool :=
  (cellIndex index + Config.cellCount - cellIndex start) % Config.cellCount < count

/-- Whether an index lies in a window's extent (R26). -/
def inExtent (r : WindowRecord) (index : Nat) : Bool :=
  inRange r.base ((r.rows + 1) * r.pitch) index
    || match r.split with
       | some p => inRange p.base ((r.rows - p.row) * r.pitch) index
       | none => false

/-- Whether an index lies in the union of the extents of the windows entry `e` owns in the scene (R52). -/
def inOwnExtents (sc : Scene) (e : Fin 4) (index : Nat) : Bool :=
  allSlots.any fun k =>
    match sc.windows[k] with
    | some r => r.owner == e && inExtent r index
    | none => false

/-- The content height plus borders (R25). -/
def footprintHeight (r : WindowRecord) : Nat :=
  r.rows * r.cellHeight + match r.border with
    | some b => 2 * b.width
    | none => 0

/-! ### Free choices -/

/-- The next free choice, and the state in which it has been drawn (log entry 26). -/
def State.draw (s : State) : Bool × State := (Config.freeChoice s.draws, { s with draws := s.draws + 1 })

/-! ### Sessions (R143 to R145) -/

/-- The Session Table entry `e`. -/
def State.session (s : State) (e : Fin 4) : Session := s.sessions[e]

/-- Replace an entry. -/
def State.setSession (s : State) (e : Fin 4) (v : Session) : State := { s with sessions := s.sessions.set e v }

/-- The OPEN entry of a peer address (R145). -/
def State.entryOf (s : State) (peer : Byte) : Option (Fin 4) :=
  allEntries.find? fun e => (s.session e).isOpen && (s.session e).peer == peer

/-- The OPEN entry with role CONTROL (R128, R156). -/
def State.controlEntry (s : State) : Option (Fin 4) :=
  allEntries.find? fun e => (s.session e).isOpen && (s.session e).role == .control

/-- OPEN entries with role CLIENT (R143). -/
def State.clientCount (s : State) : Nat :=
  (allEntries.filter fun e => (s.session e).isOpen && (s.session e).role == .client).length

/-- OPEN entries, 0-4 (R143). -/
def State.openCount (s : State) : Nat := (allEntries.filter fun e => (s.session e).isOpen).length

/-- The lowest-numbered CLOSED entry (R148). -/
def State.lowestClosed (s : State) : Option (Fin 4) := allEntries.find? fun e => !(s.session e).isOpen

/-! ### Reply Queue (R162) -/

/-- Reservations held: 1 while a session packet is in execution, or is about to be taken with its entry reserved (R161,
R162). -/
def State.reservations (s : State) : Nat :=
  match s.engine with
  | .executing x => if x.packet.session.isSome then 1 else 0
  | .reserved => 1
  | _ => 0

/-- Whether the Reply Queue has an unreserved free entry. -/
def State.replyRoom (s : State) : Bool :=
  s.replyQueue.length + s.reservations < Config.replyQueueCapacity

/-- An entry joins the back of the Reply Queue. -/
def State.joinReplies (s : State) (o : Outgoing) : State := { s with replyQueue := s.replyQueue ++ [o] }

/-- R161: the engine, about to test a session packet, seeks the last unreserved free entry of the Reply Queue. -/
def State.seeksLastEntry (s : State) : Bool :=
  s.engine = .testing && s.commandQueue.head?.any (fun p => p.session.isSome)
    && s.replyQueue.length + s.reservations + 1 = Config.replyQueueCapacity

/-- R161: where the engine and a notice seek the same entry at the same moment, either may take it first: a free choice says
whether the engine reserves it before the notice (log entry 35). -/
def contestEntry (s : State) : State :=
  if s.seeksLastEntry then
    let (engineFirst, s) := s.draw
    if engineFirst then { s with engine := .reserved } else s
  else s

/-- R159, R161: offer a notice to entry `e`, against the engine where it seeks the same entry. -/
def offerNotice (e : Fin 4) (payload : List Byte) (s : State) : State :=
  if (s.session e).isOpen then
    let s := contestEntry s
    if s.replyRoom then s.joinReplies ⟨.notice, (s.session e).peer, 0, payload⟩
    else s.setSession e { s.session e with noticeLost := true }
  else s

/-- R128: report a change into or out of LOCKED: a LOCK_CHANGED notice to the CONTROL session, if one is open. -/
def reportLockChange (s : State) : State :=
  match s.controlEntry with
  | some c => offerNotice c (lockChangedPayload s.rx.lock s.rx.geometry) s
  | none => s

/-! ### Command Queue and engine (R161) -/

/-- The engine with no packet in execution, before the queue `q`: IDLE if it is empty, else the head is to be tested. -/
def nextHead (q : List Packet) : Engine := if q.isEmpty then .idle else .testing

/-- R161: an entry has left the Reply Queue, so a WAITING engine tests again. -/
def wakeEngine (s : State) : State :=
  match s.engine with
  | .waiting => { s with engine := .testing }
  | _ => s

/-- A packet joins the back of the Command Queue; an IDLE engine tests it at once (R161). -/
def State.joinCommands (s : State) (p : Packet) : State :=
  { s with
    commandQueue := s.commandQueue ++ [p]
    engine := match s.engine with
      | .idle => .testing
      | other => other }

/-! ### Teardown and session end (R17, R157) -/

/-- Leave a slot unclaimed and out of the Order; the other entries keep their order (R31, R13). -/
def Scene.release (sc : Scene) (slot : Fin 8) : Scene :=
  { sc with windows := sc.windows.set slot none, order := sc.order.filter (· ≠ slot) }

/-- Whether a slot is claimed in a scene by entry `e`. -/
def Scene.ownedBy (sc : Scene) (e : Fin 4) (slot : Fin 8) : Bool :=
  match sc.windows[slot] with
  | some r => r.owner == e
  | none => false

/-- R17: free the entry's staged windows, list its live windows, clear the commit issuer if it names the entry. -/
def teardownRequest (e : Fin 4) (s : State) : State :=
  let sc := s.scene
  { s with scene := { sc with
      staged := (allSlots.filter (sc.staged.ownedBy e)).foldl Scene.release sc.staged
      teardown := allSlots.filter fun k => sc.teardown.contains k || sc.live.ownedBy e k
      commit := if sc.commit.issuer = some e then { sc.commit with issuer := none } else sc.commit } }

/-- R157: drop the session's queued packets, stop its executing packet and release its reservation, close the entry, and
send the teardown request. The steps of the model are whole, so no command or step is in hand here (log entry 17). -/
def endSession (e : Fin 4) (s : State) : State :=
  let q := s.commandQueue.filter fun p => p.session ≠ some e
  let engine := match s.engine with
    | .idle => .idle
    | .testing => nextHead q
    | .reserved => if q.head? = s.commandQueue.head? then .reserved else nextHead q
    | .waiting => if q.head? = s.commandQueue.head? then .waiting else nextHead q
    | .executing x => if x.packet.session = some e then nextHead q else .executing x
  teardownRequest e ({ s with commandQueue := q, engine := engine }.setSession e Session.closed)

/-! ### A composited frame start (R12 to R15, R94, R95, R155) -/

/-- R13, stage 2: remove the listed slots from the live scene, empty the list; a non-empty list advances the epoch, here
at once (stage 4 of R12; log entry 4). -/
def teardownStage (s : State) : State :=
  let sc := s.scene
  let changed := !sc.teardown.isEmpty
  { s with scene := { sc with
      live := sc.teardown.foldl Scene.release sc.live
      teardown := []
      epoch := if changed then sc.epoch + 1 else sc.epoch
      stage := .commitDue changed } }

/-- R14, stages 3 to 5: apply a pending commit that is due, advance the epoch unless stage 2 already did, and offer the
COMMITTED notice to the issuer (R15). -/
def commitStage (advanced : Bool) (s : State) : State :=
  let sc := s.scene
  if sc.commit.pending && commitDue sc.commit.mode sc.commit.target sc.frameCounter then
    let epoch := if advanced then sc.epoch else sc.epoch + 1
    let s' := { s with scene := { sc with
      live := sc.staged, commit := CommitRecord.clear, epoch := epoch, stage := .settled } }
    match sc.commit.issuer with
    | some e => offerNotice e (committedPayload epoch sc.frameCounter) s'
    | none => s'
  else { s with scene := { sc with stage := .settled } }

/-- The stages of R12 that the Scene Store still owes to the frame start in hand, in order. -/
def finishScene (s : State) : State :=
  match s.scene.stage with
  | .settled => s
  | .teardownDue =>
    let s' := teardownStage s
    commitStage (!s.scene.teardown.isEmpty) s'
  | .commitDue advanced => commitStage advanced s

/-- R95: compare the advanced blink counter with the live period. -/
def blinkCompare (s : State) : State :=
  if s.comp.blinkCounter < s.scene.live.blinkPeriod then s
  else { s with comp := { s.comp with blinkCounter := 0, blinkOn := !s.comp.blinkOn } }

/-- R155: whether an entry has reached its limit at the frame start in hand. -/
def Session.expiring (v : Session) : Bool := v.isOpen && v.idle == v.limit

/-- The entries that expire at the frame start in hand, ascending. -/
def State.expiringEntries (s : State) : List (Fin 4) := allEntries.filter fun e => (s.session e).expiring

/-- One session ends with reason EXPIRED; its notice is owed (R155, R156). -/
def expireEntry (e : Fin 4) (s : State) : State :=
  endSession e { s with expired := s.expired ++ [(s.session e).peer] }

/-- R156: one SESSION_ENDED notice to the CONTROL session, if one is open. -/
def offerSessionEnded (peer : Byte) (s : State) : State :=
  match s.controlEntry with
  | some c => offerNotice c (sessionEndedPayload peer) s
  | none => s

/-- R156: offer the owed notices in the order of the ends. -/
def offerOwedNotices (s : State) : State :=
  { s.expired.foldl (fun s p => offerSessionEnded p s) s with expired := [] }

/-- The ends still owed to the frame start in hand, ascending; their notices are owed (R155). -/
def endExpired (s : State) : State := s.expiringEntries.foldl (fun s e => expireEntry e s) s

/-- Whether an end or a SESSION_ENDED notice is owed to the frame start in hand. -/
def State.expiryOwed (s : State) : Bool := !s.expiringEntries.isEmpty || !s.expired.isEmpty

/-- Offer none, some or all of the owed notices, oldest first, as free choices say. -/
def offerSome : List Byte → State → State
  | [], s => { s with expired := [] }
  | p :: rest, s =>
    let (now, s) := s.draw
    if now then offerSome rest (offerSessionEnded p s) else { s with expired := p :: rest }

/-- End none, some or all of these entries, ascending, as free choices say. -/
def endSome : List (Fin 4) → State → State
  | [], s => s
  | e :: rest, s =>
    let (now, s) := s.draw
    if now then endSome rest (expireEntry e s) else s

/-- The ends whose teardown requests fall before the Scene Store's stages: free choices say how many of those still owed
(R18, R155). Once stage 2 is taken there are none, since no request falls between two stages (R12). -/
def endsBeforeStore (s : State) : State :=
  match s.scene.stage with
  | .commitDue _ => s
  | _ => endSome s.expiringEntries s

/-- What the frame start in hand still owes, taken before any other event (R12: no event is taken between two stages).
Free choices say which of the ends still owed, in their order, come before the Scene Store's stages and which after (R18,
R155). With all of them before, free choices put the COMMITTED notice before, between or after the SESSION_ENDED notices
(R156). With one after, COMMITTED is offered as stage 5 of the Scene Store's one event (R12, R15) and so joins before the
SESSION_ENDED notices, which wait for the last end: the model's choice, narrower than the either order of R156 (log entry
5). A Reply Queue entry that an end frees goes to a notice or to the engine, as `offerNotice` says (R161). -/
def State.settle (s : State) : State :=
  blinkCompare <|
    if s.expiryOwed then
      let s := endsBeforeStore s
      if s.expiringEntries.isEmpty then offerOwedNotices (finishScene (offerSome s.expired s))
      else offerOwedNotices (endExpired (finishScene s))
    else finishScene s

/-- The part of a frame start taken before the gap its FS ends is closed: any of its notices may have joined the Reply Queue
by then, in any order that `State.settle` has (R137, R156; log entry 6). What is left stays owed. -/
def settleSome (s : State) : State :=
  if s.scene.stage = .settled && !s.expiryOwed then s
  else
    let s := endsBeforeStore s
    if s.expiringEntries.isEmpty then
      let (store, s) := (offerSome s.expired s).draw
      if store then
        let s := finishScene s
        offerSome s.expired s
      else s
    else
      let s := endExpired (finishScene s)
      offerSome s.expired s

/-- Nothing of a frame start is owed. -/
abbrev State.settled (s : State) : Prop :=
  s.scene.stage = .settled ∧ s.expiringEntries = [] ∧ s.expired = [] ∧ s.comp.blinkCounter < s.scene.live.blinkPeriod

/-- The state in which a command finds the part: LINK OUT released and the last frame start complete. -/
def State.ready (s : State) : State := State.settle { s with linkOut := [] }

/-- The parts of a composited frame start taken in the row of its FS: stage 1 of the Scene Store (R4), the idle counts
(R155), and the Compositor's frame-start actions (R94, R95). The stages left are owed (R12). -/
def compositedFrameStart (g : Option Geometry) (s : State) : State :=
  { s with
    scene := { s.scene with frameCounter := s.scene.frameCounter + 1, stage := .teardownDue }
    sessions := Vector.ofFn fun e =>
      if (s.session e).isOpen then { s.session e with idle := (s.session e).idle + 1 } else s.session e
    comp := { s.comp with
      frame := .drawing
      geometry := g
      caches := Vector.replicate 8 []
      rows := Vector.replicate 8 none
      owed := []
      reads := Vector.replicate 8 none
      blinkCounter := s.comp.blinkCounter + 1 } }

/-! ### Executing a packet (R163 to R167) -/

/-- The payload from the command being executed on. -/
def Executing.rest (x : Executing) : List Byte := x.packet.payload.drop x.pos

/-- The packet after its present command has been carried out with `data` appended to the read data. -/
def Executing.after (x : Executing) (data : List Byte) : Executing :=
  { x with
    pos := x.pos + commandLength x.rest
    executed := x.executed + 1
    readData := x.readData ++ data
    long := none }

/-- R165: the reply of a session packet. -/
def replyOf (status : Status) (failed : Nat) (e : Fin 4) (x : Executing) (s : State) : Outgoing :=
  ⟨.reply, (s.session e).peer, x.packet.seq,
    replyPayload status failed x.executed
      (flagsByte (s.session e).overrun (s.session e).noticeLost s.scene.commit.pending)
      s.scene.epoch s.scene.frameCounter x.readData⟩

/-- R165: the packet ends: build its reply into the reservation, cache it, clear the flags, clear in-progress unless a
packet of the session still waits, and test the new head (R161). -/
def endPacket (status : Status) (failed : Nat) (e : Fin 4) (x : Executing) (s : State) : State :=
  let o := replyOf status failed e x s
  let waits := s.commandQueue.any fun p => p.session == some e
  let v := { s.session e with
    cache := some o
    overrun := false
    noticeLost := false
    inProgress := (s.session e).inProgress && waits }
  { (s.setSession e v).joinReplies o with engine := nextHead s.commandQueue }

/-- R163: the present command is refused and stops the packet; its position counts from 1. -/
def refusePacket (status : Status) (e : Fin 4) (x : Executing) (s : State) : State :=
  endPacket status (x.executed + 1) e x s

/-- Go on with the packet: end it after its last command, refuse an unknown code at once (check 1; log entry 13), or stand
at the next command. -/
def carryOn (e : Fin 4) (x : Executing) (s : State) : State :=
  match x.rest with
  | [] => endPacket .ok 0 e x s
  | code :: _ =>
    if knownCodes.contains code then { s with engine := .executing x }
    else refusePacket .badCommand e x s

/-- R167: go on with a broadcast packet: it stops silently at its end or at any command that is not SYNC COMMIT. -/
def carryOnBroadcast (x : Executing) (s : State) : State :=
  match x.rest with
  | code :: _ =>
    if code = codeSyncCommit then { s with engine := .executing x }
    else { s with engine := nextHead s.commandQueue }
  | [] => { s with engine := nextHead s.commandQueue }

/-- What a command's checks and effect come to. -/
inductive Verdict where
  | refuse (status : Status)
  /-- Carried out, appending `data` to the read data. -/
  | done (s : State) (data : List Byte)
  /-- A long command has begun. -/
  | long (s : State) (c : LongCommand)

/-- R164: a read appends its data if the total does not pass 200 bytes. -/
def Verdict.read (x : Executing) (s : State) (data : List Byte) : Verdict :=
  if x.readData.length + data.length ≤ Config.readDataLimit then .done s data else .refuse .tooLarge

/-- Take the present command of a session packet if it has this code and no long command is in flight; otherwise the event
does not arise and nothing changes (log entry 3). The operands are none where R174 refuses their length byte. -/
def withCommand (code : Byte) (k : Fin 4 → Executing → Option (List Byte) → State → State) (s : State) : State :=
  let s := s.ready
  match s.engine with
  | .executing x =>
    match x.packet.session with
    | some e =>
      if x.long = none ∧ x.rest.head? = some code then k e x (operandsOf x.rest) s else s
    | none => s
  | _ => s

/-- What follows from a verdict. -/
def conclude (e : Fin 4) (x : Executing) (s : State) : Verdict → State
  | .refuse status => refusePacket status e x s
  | .done s' data => carryOn e (x.after data) s'
  | .long s' c => { s' with engine := .executing { x with long := some c } }

/-- Execute a command given by its checks and effect on the operands (R163). -/
def runCommand (code : Byte) (f : Fin 4 → Executing → List Byte → State → Verdict) (s : State) : State :=
  withCommand code (fun e x ops s =>
    match ops with
    | some ops => conclude e x s (f e x ops s)
    | none => refusePacket .badOperand e x s) s

/-- A command with no operands: any operand present is refused (R168). -/
def noOperands (ops : List Byte) (k : Verdict) : Verdict :=
  match ops with
  | [] => k
  | _ => .refuse .badOperand

/-! ### The later checks (Table 44) -/

/-- Check 3: CONTROL only. -/
def controlOnly (e : Fin 4) (s : State) (k : Verdict) : Verdict :=
  if (s.session e).role = .control then k else .refuse .notPermitted

/-- Check 6: staging is not sealed (R7). -/
def unsealed (s : State) (k : Verdict) : Verdict :=
  if s.scene.commit.pending then .refuse .stageSealed else k

/-- Checks 4, 5 and 6 on a slot, and then the record (R27, R28). -/
def withWindow (e : Fin 4) (slot : Fin 8) (s : State) (k : WindowRecord → Verdict) : Verdict :=
  match s.scene.staged.windows[slot] with
  | none => .refuse .noWindow
  | some r =>
    if (s.session e).role = .client ∧ r.owner ≠ e then .refuse .notOwner
    else unsealed s (k r)

/-- Check 7: a CLIENT's target cells lie in its own extents (R52). -/
def withinExtents (e : Fin 4) (s : State) (targets : List Nat) (k : Verdict) : Verdict :=
  if (s.session e).role = .client ∧ ¬ targets.all (inOwnExtents s.scene.staged e) then .refuse .outOfExtent else k

/-- Replace the staged scene. -/
def State.setStaged (s : State) (sc : Scene) : State := { s with scene := { s.scene with staged := sc } }

/-- Replace a staged record. -/
def State.setWindowRecord (s : State) (slot : Fin 8) (r : WindowRecord) : State :=
  s.setStaged { s.scene.staged with windows := s.scene.staged.windows.set slot (some r) }

/-- A window command that rewrites one staged record: checks 4 to 6, then the record check, whose failure is BAD_OPERAND
(R28), then the write. -/
def editWindow (e : Fin 4) (slot : Fin 8) (s : State) (edit : WindowRecord → Option WindowRecord) : Verdict :=
  withWindow e slot s fun r =>
    match edit r with
    | some r' => .done (s.setWindowRecord slot r') []
    | none => .refuse .badOperand

/-- The scene a selector names: live (true) or staged. -/
def State.selectScene (s : State) (live : Bool) : Scene := if live then s.scene.live else s.scene.staged

end Sys2Proof.Machine
end

