-- ==== Sys2Proof/Machine/Compose.lean ====
section
/-! DEFINITION. The Compositor (06_composing_a_line.md): row fetches (R98 to R101), the drawing of a pixel (R102 to R108),
the colour paths, the blend and the key (R80 to R83), and mixing (R109). -/

namespace Sys2Proof.Machine

/-! ### Rows of a window (R99, R100) -/

/-- Where a content offset lies: region, row, scan line, and the index of the row's first cell. -/
structure ContentLine where
  region : Region
  row : Nat
  scan : Nat
  first : Nat
  deriving DecidableEq, Repr

/-- The upper region (R99). -/
def upperLine (r : WindowRecord) (d : Nat) : ContentLine :=
  let row := (d + r.fine) / r.cellHeight
  ⟨.upper, row, (d + r.fine) % r.cellHeight, cellIndex (r.base + row * r.pitch)⟩

/-- The line of a window at content offset `d`: in the split region at and below S x cell height (R100), else in the
upper region (R99). -/
def contentLine (r : WindowRecord) (d : Nat) : ContentLine :=
  match r.split with
  | some p =>
    if p.row * r.cellHeight ≤ d then
      let row := d / r.cellHeight
      ⟨.split, row, d % r.cellHeight, cellIndex (p.base + (row - p.row) * r.pitch)⟩
    else upperLine r d
  | none => upperLine r d

/-- Whether the content of a window spans active line `y` (R99). -/
def spans (r : WindowRecord) (y : Nat) : Bool := r.y ≤ y && y < r.y + r.rows * r.cellHeight

/-- The fetch a window makes at active line `y`: at content offset 0 and at each scan line 0 (R99, R100). -/
def fetchAt (r : WindowRecord) (y : Nat) : Option RowState :=
  if spans r y then
    let l := contentLine r (y - r.y)
    if y = r.y ∨ l.scan = 0 then some ⟨l.region, l.row, l.first⟩ else none
  else none

/-- The row fetches of the line start of active line `y` (R99 to R101), one for each window of the live Order that begins a
row there. -/
def fetchesAt (sc : Scene) (y : Nat) : List (Fin 8 × RowState) :=
  sc.order.filterMap fun k =>
    match sc.windows[k] with
    | some r => (fetchAt r y).map fun f => (k, f)
    | none => none

/-- The cells of a row, as they stand (R98, R101). -/
def rowCells (m : Store Cell) (columns first : Nat) : List CacheEntry :=
  (List.range columns).map fun c => ⟨cellAt m (first + c), cellIndex (first + c)⟩

/-- One row fetch: a whole row into the window's Row Cache (R98, R101). -/
def takeFetch (f : Fin 8 × RowState) (s : State) : State :=
  match s.scene.live.windows[f.1] with
  | some r =>
    { s with comp := { s.comp with
        caches := s.comp.caches.set f.1 (rowCells s.cells r.columns f.2.first)
        rows := s.comp.rows.set f.1 (some f.2) } }
  | none => s

/-- Take every row fetch the line in hand still owes: they come before its first pixel (R101). -/
def fetchAll (s : State) : State :=
  s.comp.owed.foldl (fun s f => takeFetch f s) { s with comp := { s.comp with owed := [] } }

/-- One owed fetch meets a cell write: a free choice says whether it is taken before the write or stays owed (R60, R101). -/
def fetchOrKeep (s : State) (f : Fin 8 × RowState) : State :=
  let (now, s) := s.draw
  if now then takeFetch f s else { s with comp := { s.comp with owed := s.comp.owed ++ [f] } }

/-- The row fetches taken before a cell write that reaches the Cell Buffer among them (log entry 7). -/
def fetchSome (s : State) : State :=
  s.comp.owed.foldl fetchOrKeep { s with comp := { s.comp with owed := [] } }

/-- The line start of active line `y` in DRAWING: its fetches are owed, and each cell is read afresh (R75, R99). -/
def composeLineStart (y : Nat) (s : State) : State :=
  { s with comp := { s.comp with owed := fetchesAt s.scene.live y, reads := Vector.replicate 8 none } }

/-! ### Colours (R80 to R83) -/

/-- One component of a blend step (R82). -/
def blendComponent (c : Nat) (above under : Byte) : Byte := byte ((c * above.toNat + (8 - c) * under.toNat) / 8)

/-- A blend step (R82). -/
def blend (c : Nat) (above under : RGB) : RGB :=
  ⟨blendComponent c above.r under.r, blendComponent c above.g under.g, blendComponent c above.b under.b⟩

/-- The output entry of an index, through the live index mask (R80 step 3 and 4, R81). -/
def outputEntry (sc : Scene) (index : Byte) : ColourEntry := sc.colours[(index &&& sc.indexMask).toFin]

/-- The entry of a content pixel whose drawn dot is `dot` (R80): palette, mask, table, clear background. -/
def cellEntry (sc : Scene) (r : WindowRecord) (c : Cell) (dot : Bool) : ColourEntry :=
  let number := if dot then c.fg else c.bg
  let entry := outputEntry sc sc.palettes[r.palette][number.toFin]
  if !dot && c.flags.getLsbD 3 then { entry with coverage := 0 } else entry

/-- One component of the key test: the bits the mask names agree (R83). -/
def keyComponent (original key mask : Byte) : Bool := (original ^^^ key) &&& mask == 0

/-- Whether a window's key passes at a pixel whose original is `original` (R83). -/
def keyPasses (r : WindowRecord) (original : RGB) : Bool :=
  match r.key with
  | none => true
  | some k =>
    let hit := keyComponent original.r k.colour.r k.mask.r && keyComponent original.g k.colour.g k.mask.g
      && keyComponent original.b k.colour.b k.mask.b
    match k.sense with
    | .isMatch => hit
    | .noMatch => !hit

/-! ### A pixel of a window (R102 to R108) -/

/-- The part of a window's footprint at a point (R102). -/
inductive FootprintPart where
  | outside
  | border (colour : Byte)
  /-- Column offset and content offset. -/
  | content (u d : Nat)
  deriving DecidableEq, Repr

/-- R102. -/
def partAt (r : WindowRecord) (x y : Nat) : FootprintPart :=
  let right := r.x + r.columns * r.cellWidth
  let bottom := r.y + r.rows * r.cellHeight
  if r.x ≤ x ∧ x < right ∧ r.y ≤ y ∧ y < bottom then .content (x - r.x) (y - r.y)
  else
    match r.border with
    | some b =>
      if r.x ≤ x + b.width ∧ x < right + b.width ∧ r.y ≤ y + b.width ∧ y < bottom + b.width then .border b.colour
      else .outside
    | none => .outside

/-- The bank a cell is drawn from (R74). -/
def bankOf (r : WindowRecord) (c : Cell) : Nat := if r.dualBank && c.flags.getLsbD 2 then r.bankB else r.bankA

/-- R104. -/
def underlined (r : WindowRecord) (c : Cell) (scan : Nat) : Bool := scan == r.underlineLine && c.flags.getLsbD 1

/-- R105. -/
def cursorOn (r : WindowRecord) (index scan : Nat) (blinkOn : Bool) : Bool :=
  match r.cursor with
  | some k => index == k.cell && k.startLine ≤ scan && scan ≤ k.endLine && (!k.blink || blinkOn)
  | none => false

/-- R106. -/
def blanked (r : WindowRecord) (c : Cell) (blinkOn : Bool) : Bool := r.blinkEnable && c.flags.getLsbD 0 && !blinkOn

/-- R107: underline and cursor, then blink, then the glyph dot. -/
def drawnDot (r : WindowRecord) (entry : CacheEntry) (scan : Nat) (blinkOn glyphDot : Bool) : Bool :=
  if underlined r entry.cell scan || cursorOn r entry.index scan blinkOn then true
  else if blanked r entry.cell blinkOn then false
  else glyphDot

/-- Dot column `c` of a glyph row is bit 15 - c (Table 49). -/
def dotAt (row : Word) (c : Nat) : Bool := row.getLsbD (15 - c)

/-- The glyph row of a cell column on this line: the read already made for it, or a read now (R75). -/
def readDots (m : Store Word) (held : Option GlyphRead) (column bank code scan : Nat) : GlyphRead :=
  match held with
  | some g => if g.column = column then g else ⟨column, glyphRow m bank code scan⟩
  | none => ⟨column, glyphRow m bank code scan⟩

/-- The picture being formed at one pixel: the result so far and the glyph reads of the line. -/
structure Mixing where
  result : RGB
  reads : Vector (Option GlyphRead) 8
  deriving DecidableEq, Repr

/-- One window's step at a pixel (R109, steps 2 to 4): the glyph read is made whether or not the key passes. -/
def mixWindow (s : State) (x y : Nat) (original : RGB) (k : Fin 8) (m : Mixing) : Mixing :=
  let sc := s.scene.live
  match sc.windows[k] with
  | none => m
  | some r =>
    match partAt r x y with
    | .outside => m
    | .border colour =>
      let entry := outputEntry sc colour
      if keyPasses r original then { m with result := blend entry.coverage entry.colour m.result } else m
    | .content u d =>
      let line := contentLine r d
      let column := u / r.cellWidth
      match s.comp.caches[k][column]? with
      | none => m
      | some c =>
        let read := readDots s.glyphs m.reads[k] column (bankOf r c.cell) c.cell.code.toNat line.scan
        let dot := drawnDot r c line.scan s.comp.blinkOn (dotAt read.dots (u % r.cellWidth))
        let entry := cellEntry sc r c.cell dot
        { result := if keyPasses r original then blend entry.coverage entry.colour m.result else m.result
          reads := m.reads.set k (some read) }

/-- R109: the output pixel at column `x` of active line `y`, the windows taken from the back of the live Order. -/
def mixPixel (s : State) (x y : Nat) (original : RGB) : Mixing :=
  s.scene.live.order.reverse.foldl (fun m k => mixWindow s x y original k m) ⟨original, s.comp.reads⟩

/-- Form a pixel in DRAWING: the owed fetches come first, then the mixing; answers the output pixel. -/
def composePixel (x y : Nat) (original : RGB) (s : State) : RGB × State :=
  let s := fetchAll s
  let m := mixPixel s x y original
  (m.result, { s with comp := { s.comp with reads := m.reads } })

/-- The frame being drawn is stopped at a framing error (R93, R110). -/
def stopCompositor (s : State) : State :=
  { s with comp := { s.comp with
      frame := if s.comp.frame = .drawing then .stopped else s.comp.frame, owed := [] } }

/-- The Compositor goes to IDLE (R93). -/
def idleCompositor (s : State) : State := { s with comp := { s.comp with frame := .idle, owed := [] } }

end Sys2Proof.Machine
end

