-- ==== Sys2Proof/Machine/Cells.lean ====
section
/-! DEFINITION. The cell commands (03_cell_buffer.md, R51 to R59) and the step of a long cell command (R55). -/

namespace Sys2Proof.Machine

/-- R53: write a list of cells from `start` on under a field mask. -/
def writeRun (mask : BitVec 4) : Nat → List Cell → Store Cell → Store Cell
  | _, [], m => m
  | i, c :: rest, m => writeRun mask (i + 1) rest (setCell m i (mergeCell mask c (cellAt m i)))

/-- The indices of a range (R46). -/
def rangeTargets (start count : Nat) : List Nat := (List.range count).map fun i => cellIndex (start + i)

/-- R53: check 2, check 7, and the list as one step of the Cell Buffer. -/
def writeCells (e : Fin 4) (_x : Executing) (ops : List Byte) (s : State) : Verdict :=
  match ops with
  | sh :: sl :: mask :: list =>
    match cellIndexOf sh sl, fieldMaskOf mask, cellsOf list with
    | some start, some m, some cells =>
      if 1 ≤ cells.length ∧ cells.length ≤ 78 then
        withinExtents e s (rangeTargets start cells.length) <|
          let s := fetchSome s
          .done { s with cells := writeRun m start cells s.cells } []
      else .refuse .badOperand
    | _, _, _ => .refuse .badOperand
  | _ => .refuse .badOperand

/-- WRITE_CELLS (R53). -/
def execWriteCells (s : State) : Result := .next (runCommand codeWriteCells writeCells s)

/-- A count 1-16384 (R56, R59). -/
def cellCountOf (hi lo : Byte) : Option Nat :=
  if 1 ≤ be16 hi lo ∧ be16 hi lo ≤ 16384 then some (be16 hi lo) else none

/-- R56: check 2, check 7, and the start of the long command. -/
def fillCells (e : Fin 4) (_x : Executing) (ops : List Byte) (s : State) : Verdict :=
  match ops with
  | [sh, sl, ch, cl, mask, a, b, c] =>
    match cellIndexOf sh sl, cellCountOf ch cl, fieldMaskOf mask, cellOf a b c with
    | some start, some count, some m, some cell =>
      withinExtents e s (rangeTargets start count) (.long s (.fill start count m cell 0))
    | _, _, _, _ => .refuse .badOperand
  | _ => .refuse .badOperand

/-- FILL_CELLS (R56). -/
def execFillCells (s : State) : Result := .next (runCommand codeFillCells fillCells s)

/-- R52: the destination cells of a copy. -/
def copyTargets (dstBase dstPitch width height : Nat) : List Nat :=
  (List.range (width * height)).map fun k => cellIndex (dstBase + k / width * dstPitch + k % width)

/-- R57: check 2, check 7 over the destination, and the start of the long command. -/
def copyCells (e : Fin 4) (_x : Executing) (ops : List Byte) (s : State) : Verdict :=
  match ops with
  | [sh, sl, sp, dh, dl, dp, width, height] =>
    match cellIndexOf sh sl, cellIndexOf dh dl with
    | some src, some dst =>
      if 1 ≤ sp.toNat ∧ 1 ≤ dp.toNat ∧ 1 ≤ width.toNat ∧ width.toNat ≤ 160 ∧ 1 ≤ height.toNat ∧ height.toNat ≤ 120 then
        withinExtents e s (copyTargets dst dp.toNat width.toNat height.toNat)
          (.long s (.copy src sp.toNat dst dp.toNat width.toNat height.toNat 0))
      else .refuse .badOperand
    | _, _ => .refuse .badOperand
  | _ => .refuse .badOperand

/-- COPY_CELLS (R57). -/
def execCopyCells (s : State) : Result := .next (runCommand codeCopyCells copyCells s)

/-- R54: the cells of a range in their wire form. -/
def cellsData (m : Store Cell) (start count : Nat) : List Byte :=
  (List.range count).flatMap fun i => cellBytes (cellAt m (start + i))

/-- R54. -/
def readCells (_e : Fin 4) (x : Executing) (ops : List Byte) (s : State) : Verdict :=
  match ops with
  | [sh, sl, count] =>
    match cellIndexOf sh sl with
    | some start =>
      if 1 ≤ count.toNat ∧ count.toNat ≤ 64 then Verdict.read x s (cellsData s.cells start count.toNat)
      else .refuse .badOperand
    | none => .refuse .badOperand
  | _ => .refuse .badOperand

/-- READ_CELLS (R54). -/
def execReadCells (s : State) : Result := .next (runCommand codeReadCells readCells s)

/-- R59: check 2, the data limit for its four bytes, and the start of the long command. -/
def findCells (_e : Fin 4) (x : Executing) (ops : List Byte) (s : State) : Verdict :=
  match ops with
  | [sh, sl, ch, cl, a, b, c, mask] =>
    match cellIndexOf sh sl, cellCountOf ch cl, cellOf a b c, careMaskOf mask with
    | some start, some count, some pattern, some m =>
      if x.readData.length + 4 ≤ Config.readDataLimit then .long s (.find start count pattern m 0 0 none)
      else .refuse .tooLarge
    | _, _, _, _ => .refuse .badOperand
  | _ => .refuse .badOperand

/-- FIND_CELLS (R59). -/
def execFindCells (s : State) : Result := .next (runCommand codeFindCells findCells s)

/-! ### Cell steps (R55) -/

/-- R58: which (row, column), counted row by row, the `k`-th step of a copy takes: ascending when the destination base is
lower than the source base, else descending. -/
def copyOrder (srcBase dstBase total k : Nat) : Nat := if dstBase < srcBase then k else total - 1 - k

/-- R57: one step of a copy, reading the source cell as it stands. -/
def copyStep (srcBase srcPitch dstBase dstPitch width height k : Nat) (m : Store Cell) : Store Cell :=
  let n := copyOrder srcBase dstBase (width * height) k
  setCell m (dstBase + n / width * dstPitch + n % width) (cellAt m (srcBase + n / width * srcPitch + n % width))

/-- Go on with a long command after a step: to its next step, or past its end with `data` for the reply (R55). -/
def stepLong (e : Fin 4) (x : Executing) (last : Bool) (c : LongCommand) (data : List Byte) (s : State) : State :=
  if last then carryOn e (x.after data) s else { s with engine := .executing { x with long := some c } }

/-- R59: the data of a search: the number of matches and the first of them, 65535 when none. -/
def findData (matched : Nat) (first : Option Nat) : List Byte := bytes16 matched ++ bytes16 (first.getD 65535)

/-- R55: one cell step of the long cell command in flight. A row fetch falls before or after a whole step (R60, R61). -/
def cellStep (s : State) : State :=
  let s := s.ready
  match s.engine with
  | .executing x =>
    match x.packet.session, x.long with
    | some e, some (.fill start count mask cell done) =>
      let s := fetchSome s
      stepLong e x (count ≤ done + 1) (.fill start count mask cell (done + 1)) []
        { s with cells :=
            setCell s.cells (start + done) (mergeCell mask cell (cellAt s.cells (start + done))) }
    | some e, some (.copy sb sp db dp width height done) =>
      let s := fetchSome s
      stepLong e x (width * height ≤ done + 1) (.copy sb sp db dp width height (done + 1)) []
        { s with cells := copyStep sb sp db dp width height done s.cells }
    | some e, some (.find start count pattern mask done matched first) =>
      let hit := cellMatches mask pattern (cellAt s.cells (start + done))
      let matched := if hit then matched + 1 else matched
      let first := if hit && first.isNone then some (cellIndex (start + done)) else first
      stepLong e x (count ≤ done + 1) (.find start count pattern mask (done + 1) matched first)
        (findData matched first) s
    | _, _ => s
  | _ => s

/-- CELL_STEP (R55). -/
def execCellStep (s : State) : Result := .next (cellStep s)

end Sys2Proof.Machine
end

