-- ==== Sys2Proof/Machine/Colours.lean ====
section
/-! DEFINITION. The colour commands (05_colour_tables_and_keying.md, R84 to R89). -/

namespace Sys2Proof.Machine

/-- A table with the entries from `first` on replaced by a list (R85, R86). -/
def overlay {α : Type} {n : Nat} (first : Nat) (xs : List α) (v : Vector α n) : Vector α n :=
  Vector.ofFn fun i => if first ≤ i.1 then (xs[i.1 - first]?).getD v[i] else v[i]

/-- R85: check 2, check 3, check 6. -/
def setPalette (e : Fin 4) (_x : Executing) (ops : List Byte) (s : State) : Verdict :=
  match ops with
  | p :: first :: indices =>
    match paletteOf p with
    | some k =>
      if first.toNat ≤ 15 ∧ 1 ≤ indices.length ∧ indices.length ≤ 16 ∧ first.toNat + indices.length ≤ 16 then
        controlOnly e s <| unsealed s <|
          let sc := s.scene.staged
          .done (s.setStaged { sc with
            palettes := sc.palettes.set k (overlay first.toNat indices sc.palettes[k]) }) []
      else .refuse .badOperand
    | none => .refuse .badOperand
  | _ => .refuse .badOperand

/-- SET_PALETTE (R85). -/
def execSetPalette (s : State) : Result := .next (runCommand codeSetPalette setPalette s)

/-- R86: check 2 over the whole list, check 3, check 6. -/
def setColours (e : Fin 4) (_x : Executing) (ops : List Byte) (s : State) : Verdict :=
  match ops with
  | first :: entries =>
    match colourEntriesOf entries with
    | some xs =>
      if 1 ≤ xs.length ∧ xs.length ≤ 58 ∧ first.toNat + xs.length ≤ 256 then
        controlOnly e s <| unsealed s <|
          let sc := s.scene.staged
          .done (s.setStaged { sc with colours := overlay first.toNat xs sc.colours }) []
      else .refuse .badOperand
    | none => .refuse .badOperand
  | [] => .refuse .badOperand

/-- SET_COLOURS (R86). -/
def execSetColours (s : State) : Result := .next (runCommand codeSetColours setColours s)

/-- R87. -/
def setOptions (e : Fin 4) (_x : Executing) (ops : List Byte) (s : State) : Verdict :=
  match ops with
  | [period, mask, r, g, b] =>
    if 2 ≤ period.toNat ∧ period.toNat ≤ 120 then
      controlOnly e s <| unsealed s <|
        .done (s.setStaged { s.scene.staged with
          blinkPeriod := period.toNat, indexMask := mask, fill := ⟨r, g, b⟩ }) []
    else .refuse .badOperand
  | _ => .refuse .badOperand

/-- SET_OPTIONS (R87). -/
def execSetOptions (s : State) : Result := .next (runCommand codeSetOptions setOptions s)

/-- R88: palette entries, blink period, index mask, fill colour. -/
def paletteData (sc : Scene) (k : Fin 4) : List Byte :=
  sc.palettes[k].toList ++ [byte sc.blinkPeriod, sc.indexMask, sc.fill.r, sc.fill.g, sc.fill.b]

/-- R88. -/
def readPalette (_e : Fin 4) (x : Executing) (ops : List Byte) (s : State) : Verdict :=
  match ops with
  | [scene, p] =>
    match sceneSelector scene, paletteOf p with
    | some live, some k => Verdict.read x s (paletteData (s.selectScene live) k)
    | _, _ => .refuse .badOperand
  | _ => .refuse .badOperand

/-- READ_PALETTE (R88). -/
def execReadPalette (s : State) : Result := .next (runCommand codeReadPalette readPalette s)

/-- R89: `count` entries from `first`, four bytes each. -/
def coloursData (sc : Scene) (first count : Nat) : List Byte :=
  ((sc.colours.toList.drop first).take count).flatMap colourEntryBytes

/-- R89. -/
def readColours (_e : Fin 4) (x : Executing) (ops : List Byte) (s : State) : Verdict :=
  match ops with
  | [scene, first, count] =>
    match sceneSelector scene with
    | some live =>
      if 1 ≤ count.toNat ∧ count.toNat ≤ 50 ∧ first.toNat + count.toNat ≤ 256 then
        Verdict.read x s (coloursData (s.selectScene live) first.toNat count.toNat)
      else .refuse .badOperand
    | none => .refuse .badOperand
  | _ => .refuse .badOperand

/-- READ_COLOURS (R89). -/
def execReadColours (s : State) : Result := .next (runCommand codeReadColours readColours s)

end Sys2Proof.Machine
end

