-- ==== Sys2Proof/Machine/Device.lean ====
section
/-! DEFINITION. The commands of the part as a whole (10_command_execution_and_replies.md, R168 to R172), DEVICE SETTINGS
(R122), OPEN SESSION met by the Command Engine (R163), and TAKE_HEAD_PACKET (R161). -/

namespace Sys2Proof.Machine

/-! ### Taking a packet (R161) -/

/-- A packet as it is taken: at its first command, with nothing executed. -/
def startPacket (p : Packet) : Executing := ⟨p, 0, 0, [], none⟩

/-- R161: test the head of the Command Queue and take it: a broadcast at once, a session packet if an entry of the Reply
Queue is reserved for it or can be reserved; else the engine is WAITING. -/
def takeHead (s : State) : State :=
  match s.commandQueue with
  | [] => { s with engine := .idle }
  | p :: rest =>
    match p.session with
    | none => carryOnBroadcast (startPacket p) { s with commandQueue := rest }
    | some e =>
      if s.engine = .reserved ∨ s.replyRoom then carryOn e (startPacket p) { s with commandQueue := rest }
      else { s with engine := .waiting }

/-- TAKE_HEAD_PACKET (R161): arises only with no packet in execution. -/
def execTakeHeadPacket (s : State) : Result :=
  let s := s.ready
  .next (match s.engine with
    | .executing _ => s
    | .idle => takeHead s
    | .testing => takeHead s
    | .reserved => takeHead s
    | .waiting => takeHead s)

/-! ### KEEPALIVE, IDENTIFY, CLOSE SESSION -/

/-- R168. -/
def keepalive (_e : Fin 4) (_x : Executing) (ops : List Byte) (s : State) : Verdict := noOperands ops (.done s [])

/-- KEEPALIVE (R168). -/
def execKeepalive (s : State) : Result := .next (runCommand codeKeepalive keepalive s)

/-- R169: vendor 0x0E71, part 0x7140, revision 1, unit address, capacities, number of cells. -/
def identityData (unit : Byte) : List Byte :=
  [0x0E, 0x71, 0x71, 0x40, 1, unit, 8, 4, 4, 8, 8] ++ bytes16 Config.cellCount

/-- R169. -/
def identify (_e : Fin 4) (x : Executing) (ops : List Byte) (s : State) : Verdict :=
  noOperands ops (Verdict.read x s (identityData s.unitAddress))

/-- IDENTIFY (R169). -/
def execIdentify (s : State) : Result := .next (runCommand codeIdentify identify s)

/-- R170: the packet ends with its reply, and then the session ends (R157). -/
def closeSession (e : Fin 4) (x : Executing) (ops : Option (List Byte)) (s : State) : State :=
  match ops with
  | some [] => endSession e (endPacket .ok 0 e (x.after []) s)
  | _ => refusePacket .badOperand e x s

/-- CLOSE_SESSION (R170). -/
def execCloseSession (s : State) : Result := .next (withCommand codeCloseSession closeSession s)

/-! ### READ STATUS (R171) -/

/-- Table 46: 25 bytes. -/
def statusData (s : State) : List Byte :=
  let c := s.scene.commit
  [lockByte s.rx.lock] ++ geometryBytes s.rx.geometry
    ++ bytes16 s.scene.frameCounter.toNat ++ bytes16 s.scene.epoch.toNat
    ++ [bit c.pending, commitModeByte c.mode] ++ bytes16 c.target.toNat
    ++ [match c.issuer with
        | some e => byte e.1
        | none => 0xFF]
    ++ bytes16 s.rx.checkFailures.toNat ++ bytes16 s.rx.damagedFrames.toNat
    ++ [byte s.openCount, byte s.commandQueue.length, byte s.replyQueue.length]

/-- Both link counters set to 0 (R127). -/
def clearLinkCounters (s : State) : State := { s with rx := { s.rx with checkFailures := 0, damagedFrames := 0 } }

/-- R171: the flags byte, the role with CLEAR COUNTERS, the data limit, and the clear after the values are taken. -/
def readStatus (e : Fin 4) (x : Executing) (ops : List Byte) (s : State) : Verdict :=
  match ops with
  | [flags] =>
    if flags = 0 then Verdict.read x s (statusData s)
    else if flags = 1 then
      controlOnly e s <|
        match Verdict.read x s (statusData s) with
        | .done s data => .done (clearLinkCounters s) data
        | v => v
    else .refuse .badOperand
  | _ => .refuse .badOperand

/-- READ_STATUS (R171). -/
def execReadStatus (s : State) : Result := .next (runCommand codeReadStatus readStatus s)

/-- CLEAR_COUNTERS (R171): the READ STATUS whose flags name CLEAR COUNTERS; the clear is part of its one step
(log entry 16). -/
def clearCounters (e : Fin 4) (x : Executing) (ops : Option (List Byte)) (s : State) : State :=
  match ops with
  | some [flags] => if flags = 1 then conclude e x s (readStatus e x [flags] s) else s
  | _ => s

/-- CLEAR_COUNTERS (R171). -/
def execClearCounters (s : State) : Result := .next (withCommand codeReadStatus clearCounters s)

/-! ### DEVICE SETTINGS (R122) -/

/-- R122: check 2 and check 3; the three settings are replaced together. -/
def deviceSettings (e : Fin 4) (_x : Executing) (ops : List Byte) (s : State) : Verdict :=
  match ops with
  | [enable, a, b, c, d, watchdog] =>
    match yesNo enable with
    | some fallback =>
      if 10000 ≤ be32 a b c d ∧ be32 a b c d ≤ 100000 ∧ 20 ≤ watchdog.toNat ∧ watchdog.toNat ≤ 250 then
        controlOnly e s (.done { s with settings := ⟨fallback, be32 a b c d, watchdog.toNat⟩ } [])
      else .refuse .badOperand
    | none => .refuse .badOperand
  | _ => .refuse .badOperand

/-- DEVICE_SETTINGS (R122). -/
def execDeviceSettings (s : State) : Result := .next (runCommand codeDeviceSettings deviceSettings s)

/-! ### RESET DEVICE (R172) -/

/-- Table 47: everything RESET DEVICE changes in one step, its own reply apart. -/
def deviceReset (s : State) : State :=
  { s with
    scene := SceneStore.reset
    sessions := Vector.replicate 4 Session.closed
    expired := []
    engine := .idle
    commandQueue := []
    replyQueue := []
    settings := DeviceSettings.reset
    rx := { s.rx with checkFailures := 0, damagedFrames := 0 }
    comp := { s.comp with
      caches := Vector.replicate 8 []
      rows := Vector.replicate 8 none
      owed := []
      reads := Vector.replicate 8 none
      blinkCounter := 0
      blinkOn := true } }

/-- R172: the reply, addressed to the issuer as it stood, with the flags clear and the reset epoch and frame counter. -/
def resetReply (e : Fin 4) (x : Executing) (s : State) : Outgoing :=
  ⟨.reply, (s.session e).peer, x.packet.seq, replyPayload .ok 0 (x.executed + 1) 0 0 0 x.readData⟩

/-- R172: no operands, CONTROL only; the reply is the only entry of the Reply Queue and is in no cache. -/
def resetDevice (e : Fin 4) (x : Executing) (ops : Option (List Byte)) (s : State) : State :=
  match ops with
  | some [] =>
    if (s.session e).role = .control then { deviceReset s with replyQueue := [resetReply e x s] }
    else refusePacket .notPermitted e x s
  | _ => refusePacket .badOperand e x s

/-- RESET_DEVICE (R172). -/
def execResetDevice (s : State) : Result := .next (withCommand codeResetDevice resetDevice s)

/-! ### OPEN SESSION in a packet with a sequence from 1 to 255 (R163) -/

/-- R163: refused at check 2 for its operands (log entry 14), else at check 3, for either role. -/
def openSessionCommand (_e : Fin 4) (_x : Executing) (ops : List Byte) (_s : State) : Verdict :=
  match ops with
  | [role, lh, ll] =>
    if (roleOf role).isSome ∧ 60 ≤ be16 lh ll then .refuse .notPermitted else .refuse .badOperand
  | _ => .refuse .badOperand

/-- OPEN_SESSION_COMMAND (R163). -/
def execOpenSessionCommand (s : State) : Result := .next (runCommand codeOpenSession openSessionCommand s)

end Sys2Proof.Machine
end

