-- ==== Sys2Proof/Machine/Admission.lean ====
section
/-! DEFINITION. Packet admission (09_sessions_and_packet_admission.md, R145 to R153): what the Session Manager does with one
command packet at its arrival. -/

namespace Sys2Proof.Machine

/-- R145: an admission reply, with the flags it carries and the commit flag, epoch and frame counter as they stand. -/
def admissionReply (status : Status) (failed executed : Nat) (overrun noticeLost : Bool) (dest seq : Byte)
    (data : List Byte) (s : State) : Outgoing :=
  ⟨.reply, dest, seq,
    replyPayload status failed executed (flagsByte overrun noticeLost s.scene.commit.pending)
      s.scene.epoch s.scene.frameCounter data⟩

/-- A reply with no session's flags (R153). -/
def plainReply (status : Status) (failed executed : Nat) (dest : Byte) (data : List Byte) (s : State) (seq : Byte) :
    Outgoing :=
  admissionReply status failed executed false false dest seq data s

/-- R147, R174: the role and expiry limit of a well-formed OPEN payload, which is exactly code 0x01, L 3, a role and a limit
from 60 to 65535. -/
def openRequest (payload : List Byte) : Option (Role × Nat) :=
  match payload with
  | [code, len, role, lh, ll] =>
    match roleOf role with
    | some r => if code = codeOpenSession ∧ len = 3 ∧ 60 ≤ be16 lh ll then some (r, be16 lh ll) else none
    | none => none
  | _ => none

/-- R150: an OPEN entry's idle count is set to 0. -/
def resetIdle (e : Fin 4) (s : State) : State := s.setSession e { s.session e with idle := 0 }

/-- R147: BAD_OPEN is answered, resets the idle count of the peer's session if it holds one, and changes nothing else. -/
def refuseOpen (source : Byte) (s : State) : State :=
  if s.replyRoom then
    let s' := match s.entryOf source with
      | some e => resetIdle e s
      | none => s
    s'.joinReplies (plainReply .badOpen 1 0 source [] s' 0)
  else s

/-- R148, stages 2 to 4, after any reopen. -/
def openEntry (source : Byte) (role : Role) (limit : Nat) (s : State) : State :=
  if role = .control ∧ s.controlEntry.isSome then s.joinReplies (plainReply .roleTaken 0 0 source [] s 0)
  else if role = .client ∧ 3 ≤ s.clientCount then s.joinReplies (plainReply .tableFull 0 0 source [] s 0)
  else
    match s.lowestClosed with
    | some e =>
      let o := plainReply .ok 0 1 source [byte e.1] s 0
      (s.setSession e ⟨true, source, role, 1, 0, some o, false, 0, limit, false, false⟩).joinReplies o
    | none => s

/-- R148: the entry test, the reopen, and the stages after it. -/
def openSession (source : Byte) (role : Role) (limit : Nat) (s : State) : State :=
  if s.replyRoom then
    let s' := match s.entryOf source with
      | some e => endSession e s
      | none => s
    openEntry source role limit s'
  else s

/-- R150: a packet with the next expected sequence, the idle count already reset. -/
def admitNext (e : Fin 4) (seq : Byte) (payload : List Byte) (s : State) : State :=
  if s.commandQueue.length < Config.commandQueueCapacity then
    (s.joinCommands ⟨some e, seq, payload⟩).setSession e
      { s.session e with lastSeq := seq, nextSeq := nextSequence seq, inProgress := true }
  else s.setSession e { s.session e with overrun := true }

/-- R151: a duplicate of the last accepted packet. -/
def admitDuplicate (e : Fin 4) (s : State) : State :=
  if (s.session e).inProgress then s
  else
    match (s.session e).cache with
    | some o => if s.replyRoom then s.joinReplies o else s
    | none => s

/-- R152, R153: OUT_OF_SEQUENCE carries the next expected sequence and the flags, and clears them. -/
def answerOutOfSequence (e : Fin 4) (seq : Byte) (s : State) : State :=
  if s.replyRoom then
    let v := s.session e
    (s.setSession e { v with overrun := false, noticeLost := false }).joinReplies
      (admissionReply .outOfSequence 0 0 v.overrun v.noticeLost v.peer seq [v.nextSeq] s)
  else s

/-- R150 to R152: a packet with sequence 1-255 from the peer of OPEN entry `e`. -/
def admitSequenced (e : Fin 4) (seq : Byte) (payload : List Byte) (s : State) : State :=
  let s := resetIdle e s
  if seq = (s.session e).nextSeq then admitNext e seq payload s
  else if seq = (s.session e).lastSeq then admitDuplicate e s
  else answerOutOfSequence e seq s

/-- R145: one packet addressed to the unit. -/
def admitUnicast (source seq : Byte) (payload : List Byte) (s : State) : State :=
  if controllerAddress source then
    if seq = 0 then
      match openRequest payload with
      | some (role, limit) => openSession source role limit s
      | none => refuseOpen source s
    else
      match s.entryOf source with
      | some e => admitSequenced e seq payload s
      | none => if s.replyRoom then s.joinReplies (plainReply .noSession 0 0 source [] s seq) else s
  else s

/-- R146: one broadcast packet. -/
def admitBroadcast (seq : Byte) (payload : List Byte) (s : State) : State :=
  if s.commandQueue.length < Config.commandQueueCapacity then s.joinCommands ⟨none, seq, payload⟩ else s

end Sys2Proof.Machine
end

