-- ==== Sys2Proof/Machine/Output.lean ====
section
/-! DEFINITION. The Link Transmitter's operations (08_output_stream_and_packet_insertion.md): symbols and gaps of the output
(R132, R134), insertion (R135, R136), and the ending of an interrupted frame (R138). -/

namespace Sys2Proof.Machine

/-- Drive one symbol on LINK OUT. -/
def emit (sym : Symbol) (s : State) : State := { s with linkOut := s.linkOut ++ [sym] }

/-- R136, Table 38: the packet an entry of the Reply Queue is sent as, from unit address `unit`. -/
def outgoingPacket (unit : Byte) (o : Outgoing) : Symbol :=
  .pk (packetBytes (match o.kind with
    | .reply => kindReply
    | .notice => kindNotice) o.dest unit o.seq o.payload)

/-- R135: entries a gap takes at its close: up to three less its forwarded packets if it is blanking, else none. -/
def gapRoom (g : Gap) : Nat := if g.kind = .blanking then Config.gapLimit - g.forwarded.length else 0

/-- R134, R135: close the gap in hand, placing entries from the head of the Reply Queue; each entry that leaves lets a
WAITING engine test again (R161). -/
def closeGap (s : State) : State :=
  match s.tx.gap with
  | none => s
  | some g =>
    let taken := s.replyQueue.take (gapRoom g)
    let s' := { s with
      tx := { s.tx with gap := none }
      replyQueue := s.replyQueue.drop (gapRoom g)
      linkOut := s.linkOut ++ taken.map (outgoingPacket s.unitAddress) }
    if taken.isEmpty then s' else wakeEngine s'

/-- The gap an LE opens (R134): by whether its line carried a pixel. -/
def gapAfterLine (pixels : Bool) : Gap := ⟨if pixels then .activeLine else .blanking, []⟩

/-- The output frame and line after a symbol is output, in every output mode: the symbols alone say where the output stands
(R134). An FS, an LS or an FE ends the line it falls in (the model's choice, log entries 30 and 32). -/
def Transmitter.follow (sym : Symbol) (tx : Transmitter) : Transmitter :=
  match sym with
  | .fs => { tx with frameOpen := true, lineOpen := false, linePixels := false }
  | .ls _ => { tx with lineOpen := true, linePixels := false }
  | .px _ => { tx with linePixels := true }
  | .le => { tx with lineOpen := false, linePixels := false }
  | .fe => { tx with frameOpen := false, lineOpen := false, linePixels := false }
  | .pk _ => tx

/-- R131: a symbol repeated in BYPASS. The line it stands in may end after the end of INIT, so it is followed (R134). -/
def repeatSymbol (sym : Symbol) (s : State) : State := emit sym { s with tx := s.tx.follow sym }

/-- Whether an LE that ends no line of the output may still end a line whose LS was not output: in PASS, outside an output
frame. Such a line began before the last hard reset, or in AWAIT (log entry 15). -/
def Transmitter.mayEndUnseen (tx : Transmitter) : Bool := tx.mode = .pass && !tx.frameOpen

/-- R134, R138: drive a symbol that is no packet, with the gap before it closed, and follow the output frame. An LE before
which pixels stand, or that ends no line at all, opens an active-line gap; the LE of a line of which the output has carried
nothing opens a gap of either kind, as a free choice says (log entry 15). -/
def putSymbol (sym : Symbol) (s : State) : State :=
  let s := emit sym s
  let opens (gap : Option Gap) (s : State) : State := { s with tx := { s.tx.follow sym with gap := gap } }
  match sym with
  | .le =>
    if s.tx.lineOpen then opens (some (gapAfterLine s.tx.linePixels)) s
    else if !s.tx.linePixels && s.tx.mayEndUnseen then
      let (active, s) := s.draw
      opens (some (gapAfterLine active)) s
    else opens (some (gapAfterLine true)) s
  | .fe => opens (some ⟨.blanking, []⟩) s
  | .pk _ => s
  | _ => opens none s

/-- R132: output a forwarded packet in its place; in no gap it opens a run of kind "other" (R134). That a run before any
symbol of PASS, after AWAIT was lost to SEARCH, is one of these is the model's choice, and so is that it is forwarded whole
however many packets stand right before it (R135; log entry 34). -/
def forwardPacket (run : List Byte) (s : State) : State :=
  let gap := match s.tx.gap with
    | some g => { g with forwarded := g.forwarded ++ [run] }
    | none => ⟨.other, [run]⟩
  emit (.pk run) { s with tx := { s.tx with gap := some gap } }

/-- Whether forwarded packets are output in this mode: not in GENERATE (R123) or AWAIT (R141). -/
def OutputMode.forwards : OutputMode → Bool
  | .pass => true
  | .compose => true
  | .bypass => false
  | .generate => false
  | .await => false

/-- The close of the gap before a symbol, and what the symbol does at the other blocks. A notice the symbol brings about and
the close of a blanking gap meet at the Reply Queue in either order, so a free choice orders them (R137; log entry 6). -/
def orderedClose (act : State → State) (s : State) : State :=
  match s.tx.gap with
  | some g =>
    if g.kind = .blanking then
      let (actFirst, s) := s.draw
      if actFirst then closeGap (settleSome (act s)) else act (closeGap s)
    else act (closeGap s)
  | none => act s

/-- R138, steps 1 and 2: the LE of an open line and the FE if it has not been sent, each with the gap before it closed. -/
def endLineAndFrame (s : State) : State :=
  let s := if s.tx.lineOpen then putSymbol .le (closeGap s) else s
  if s.tx.frameOpen then putSymbol .fe (closeGap s) else s

/-- R138: end the output frame in progress, and close the gap it leaves. The notice of the change joins before, between or
after the two gaps closed here, as free choices say (R137, sequence 12.8; log entry 6). -/
def endInterruptedFrame (notify : State → State) (s : State) : State :=
  let (first, s) := s.draw
  if first then closeGap (endLineAndFrame (notify s))
  else
    let (between, s) := (endLineAndFrame s).draw
    if between then closeGap (notify s) else notify (closeGap s)

end Sys2Proof.Machine
end

