-- ==== Sys2Proof/Machine/Reception.lean ====
section
/-! DEFINITION. The Link Receiver (07_stream_reception_and_lock.md) and the rows of the input stream: symbols (R113 to R124),
packets (R115, R125), the frame watchdog (R121), and reset (R116). -/

namespace Sys2Proof.Machine

/-! ### Measuring a frame (R113, R117) -/

/-- A frame of which only the FS has been taken. -/
def Measure.start : Measure := ⟨0, none, 0, 0, 0, false⟩

/-- The measure after the LE of a line of `n` pixels numbered `k`; none where the frame is ill-formed (R113). -/
def Measure.lineEnd (m : Measure) (k n : Nat) : Option Measure :=
  if n = 0 then some { m with line := none, ended := m.h ≠ 0 }
  else if m.h = 0 then some { m with line := none, w := n, l0 := k, h := 1 }
  else if m.ended || n ≠ m.w then none
  else some { m with line := none, h := m.h + 1 }

/-- The measure after a symbol within the frame, other than FS and FE; none where it departs from the frame form. -/
def Measure.symbol (m : Measure) : Symbol → Option Measure
  | .ls n =>
    match m.line with
    | none => if n = m.next then some { m with next := n + 1, line := some ⟨n, 0⟩ } else none
    | some _ => none
  | .px _ =>
    match m.line with
    | some l => some { m with line := some { l with pixels := l.pixels + 1 } }
    | none => none
  | .le =>
    match m.line with
    | some l => m.lineEnd l.number l.pixels
    | none => none
  | .fs => none
  | .fe => none
  | .pk _ => some m

/-- The operating limits on a geometry (R113). -/
def Geometry.withinLimits (g : Geometry) : Bool :=
  64 ≤ g.w && g.w ≤ 4096 && 32 ≤ g.h && g.h ≤ 2304 && g.h + 2 ≤ g.t && g.t ≤ 4096

/-- The geometry of a frame at its FE; none where it is ill-formed. -/
def Measure.finish (m : Measure) : Option Geometry :=
  match m.line with
  | some _ => none
  | none =>
    let g : Geometry := ⟨m.w, m.h, m.l0, m.next⟩
    if g.withinLimits then some g else none

/-- The tracker after a symbol, and the geometry of a second consecutive well-formed frame (R117). -/
def Tracker.symbol (t : Tracker) (sym : Symbol) : Tracker × Option Geometry :=
  match sym, t.phase with
  | .fs, .measuring _ => (⟨.measuring Measure.start, none⟩, none)
  | .fs, _ => (⟨.measuring Measure.start, t.candidate⟩, none)
  | .pk _, _ => (t, none)
  | _, .waiting => (t, none)
  | _, .gapAfter => (Tracker.reset, none)
  | .fe, .measuring m =>
    match m.finish with
    | none => (Tracker.reset, none)
    | some g => if t.candidate = some g then (Tracker.reset, some g) else (⟨.gapAfter, some g⟩, none)
  | sym, .measuring m =>
    match m.symbol sym with
    | some m' => (⟨.measuring m', t.candidate⟩, none)
    | none => (Tracker.reset, none)

/-- A packet discarded under R115 makes the frame being measured ill-formed. -/
def Tracker.overfull (t : Tracker) : Tracker :=
  match t.phase with
  | .waiting => t
  | _ => Tracker.reset

/-! ### The locked frame (R119) -/

/-- Whether line `n` is active in the geometry. -/
def Geometry.active (g : Geometry) (n : Nat) : Bool := g.l0 ≤ n && n < g.l0 + g.h

/-- Table 34: whether a symbol departs from the locked geometry. Table 34 has no row for an LE in a gap; the model takes
every LE outside a line as a departure, since the frame form of R113 has none (log entry 31). -/
def framingFault (g : Geometry) (pos : FramePos) (sym : Symbol) : Bool :=
  match sym, pos with
  | .fs, .inFrame _ _ => true
  | .fs, .afterFE => false
  | .ls n, .inFrame next line => line.isSome || n ≠ next || g.t ≤ next
  | .ls _, .afterFE => true
  | .px _, .inFrame _ (some l) => !g.active l.number || g.w ≤ l.pixels
  | .px _, _ => true
  | .le, .inFrame _ (some l) => g.active l.number && l.pixels ≠ g.w
  | .le, _ => true
  | .fe, .inFrame next none => next ≠ g.t
  | .fe, _ => true
  | .pk _, _ => false

/-- The position after a symbol. -/
def FramePos.step (pos : FramePos) (sym : Symbol) : FramePos :=
  match sym, pos with
  | .fs, _ => .inFrame 0 none
  | .ls n, .inFrame _ _ => .inFrame (n + 1) (some ⟨n, 0⟩)
  | .px _, .inFrame next (some l) => .inFrame next (some { l with pixels := l.pixels + 1 })
  | .le, .inFrame next _ => .inFrame next none
  | .fe, _ => .afterFE
  | _, pos => pos

/-! ### Changes of the lock state -/

/-- R121: begin a new watchdog interval of the setting in force. -/
def restartWatchdog (s : State) : State := { s with rx := { s.rx with watchdog := some s.settings.watchdog } }

/-- R118: enter LOCKED with a geometry; `judged` is false after HOLDOVER (R124). The change is reported (R128). -/
def enterLocked (g : Geometry) (judged : Bool) (mode : OutputMode) (s : State) : State :=
  reportLockChange { s with
    rx := { s.rx with
      lock := .locked, geometry := some g, tracker := Tracker.reset, acquired := none, run := false
      frame := ⟨judged, .afterFE, false⟩ }
    tx := { s.tx with mode := mode } }

/-- R119, R120: the first framing error of a judged frame in LOCKED: count it, stop the Compositor, and apply the
damaged-frame run; a second damaged frame moves the receiver to ACQUIRE and is reported. -/
def framingError (s : State) : State :=
  let s := stopCompositor { s with rx := { s.rx with
    damagedFrames := saturate s.rx.damagedFrames, frame := { s.rx.frame with damaged := true } } }
  if s.rx.run then
    reportLockChange (idleCompositor { s with
      rx := { s.rx with lock := .acquire, run := false, tracker := Tracker.reset }
      tx := { s.tx with mode := .pass } })
  else { s with rx := { s.rx with run := true } }

/-- Whether a framing error may still be found in the frame in hand. -/
def LockedFrame.clean (f : LockedFrame) : Bool := f.judged && !f.damaged

/-! ### A symbol at the receiver -/

/-- A symbol in ACQUIRE: the tracker takes it; an FS restarts the watchdog; a second matching frame locks (R117). -/
def acquireSymbol (sym : Symbol) (s : State) : State :=
  let (t, success) := s.rx.tracker.symbol sym
  let s := { s with rx := { s.rx with tracker := t } }
  let s := if sym = .fs then restartWatchdog s else s
  match success with
  | some g => enterLocked g true .compose s
  | none => s

/-- A symbol in SEARCH: the first FS begins ACQUIRE (R117). -/
def searchSymbol (sym : Symbol) (s : State) : State :=
  if sym = .fs then acquireSymbol .fs { s with rx := { s.rx with lock := .acquire, tracker := Tracker.reset } } else s

/-- A symbol in HOLDOVER: the background acquisition takes it until it has succeeded; every FS restarts the watchdog
(R121, R123, R124). -/
def holdoverSymbol (sym : Symbol) (s : State) : State :=
  let s := if sym = .fs then restartWatchdog s else s
  match s.rx.acquired with
  | some _ => s
  | none =>
    let (t, success) := s.rx.tracker.symbol sym
    { s with rx := { s.rx with tracker := t, acquired := success } }

/-- A symbol in LOCKED that leaves the receiver LOCKED (R118 to R121): an FS settles a clean frame, restarts the watchdog
and is a composited frame start; the LS of an active line starts its fetches while DRAWING; an FE ends the drawing. -/
def lockedStep (settlesClean : Bool) (sym : Symbol) (s : State) : State :=
  let pos := s.rx.frame.pos.step sym
  match sym with
  | .fs =>
    let s := if settlesClean then { s with rx := { s.rx with run := false } } else s
    compositedFrameStart s.rx.geometry (restartWatchdog { s with rx := { s.rx with frame := ⟨true, pos, false⟩ } })
  | .ls n =>
    let s := { s with rx := { s.rx with frame := { s.rx.frame with pos := pos } } }
    match s.comp.frame, s.comp.geometry with
    | .drawing, some g => if g.active n then composeLineStart (n - g.l0) s else s
    | _, _ => s
  | .fe => idleCompositor { s with rx := { s.rx with frame := { s.rx.frame with pos := pos } } }
  | _ => { s with rx := { s.rx with frame := { s.rx.frame with pos := pos } } }

/-- A symbol in LOCKED: the check against the locked geometry first (R119), and then the symbol in the state that leaves;
an FS that is the second damaging error begins the first measured frame of ACQUIRE (R120). -/
def lockedSymbol (sym : Symbol) (s : State) : State :=
  let f := s.rx.frame
  let fault := f.clean && match s.rx.geometry with
    | some g => framingFault g f.pos sym
    | none => false
  let s := if fault then framingError s else s
  match s.rx.lock with
  | .locked => lockedStep (f.clean && !fault) sym s
  | _ => if sym = .fs then acquireSymbol .fs s else s

/-- A symbol other than a packet at the receiver, in its lock state; it ends the gap in hand (R114). -/
def receiveSymbol (sym : Symbol) (s : State) : State :=
  let s := { s with rx := { s.rx with gapPackets := 0 } }
  match s.rx.lock with
  | .init => s
  | .search => searchSymbol sym s
  | .acquire => acquireSymbol sym s
  | .locked => lockedSymbol sym s
  | .holdover => holdoverSymbol sym s

/-- The active line and column of a PX that the Compositor draws: the frame is in DRAWING after the check, and the PX stands
on an open active line (R109, R133). -/
def drawnAt (before : FramePos) (s : State) : Option (Nat × Nat) :=
  match s.rx.lock, s.comp.frame, s.comp.geometry, before with
  | .locked, .drawing, some g, .inFrame _ (some l) =>
    if g.active l.number then some (l.pixels, l.number - g.l0) else none
  | _, _, _, _ => none

/-- The output of a symbol in PASS and COMPOSE: unchanged, but for a pixel the Compositor draws (R132, R133). -/
def passSymbol (before : FramePos) (sym : Symbol) (s : State) : State :=
  match sym with
  | .px colour =>
    match drawnAt before s with
    | some (x, y) =>
      let (out, s) := composePixel x y colour s
      putSymbol (.px out) s
    | none => putSymbol sym s
  | _ => putSymbol sym s

/-- One input symbol, by output mode: repeated and followed in BYPASS (R131, R134); not output in GENERATE (R123); in AWAIT only the FS that
ends it is output (R141); in PASS and COMPOSE it closes the gap before it and is output (R132 to R135). -/
def inputSymbol (sym : Symbol) (s : State) : State :=
  let s := s.ready
  match s.tx.mode with
  | .bypass => repeatSymbol sym s
  | .generate => receiveSymbol sym s
  | .await =>
    let s := receiveSymbol sym s
    if sym = .fs then putSymbol .fs { s with tx := { s.tx with mode := .compose } } else s
  | _ =>
    let before := s.rx.frame.pos
    passSymbol before sym (orderedClose (receiveSymbol sym) s)

/-- FRAME_START (R117): an input FS. -/
def execFrameStart (s : State) : Result := .next (inputSymbol .fs s)

/-- LINE_START (R119): an input LS. -/
def execLineStart (number : Nat) (s : State) : Result := .next (inputSymbol (.ls number) s)

/-- PIXEL (R119): an input PX. -/
def execPixel (colour : RGB) (s : State) : Result := .next (inputSymbol (.px colour) s)

/-- LINE_END (R119): an input LE. -/
def execLineEnd (s : State) : Result := .next (inputSymbol .le s)

/-- FRAME_END (R117): an input FE. -/
def execFrameEnd (s : State) : Result := .next (inputSymbol .fe s)

/-! ### Packets (R115, R125) -/

/-- The effect on the frame of a packet discarded under R115: a framing error in LOCKED while the frame is judged and clean,
an ill-formed frame in ACQUIRE and in a background acquisition, nothing else. -/
def discardOverfull (s : State) : State :=
  match s.rx.lock with
  | .locked => if s.rx.frame.clean then framingError s else s
  | .acquire => { s with rx := { s.rx with tracker := s.rx.tracker.overfull } }
  | .holdover =>
    match s.rx.acquired with
    | some _ => s
    | none => { s with rx := { s.rx with tracker := s.rx.tracker.overfull } }
  | .init => s
  | .search => s

/-- Forward a packet where the output mode outputs forwarded packets. -/
def forwardIfOutput (run : List Byte) (s : State) : State :=
  if s.tx.mode.forwards then forwardPacket run s else s

/-- Table 36: a packet with a good check word. A broadcast is forwarded before it is admitted (R126, R146). A unit in AWAIT
admits it too, as Table 36, R124, R141, R145 and R146 say against the words of R177 (log entry 33). -/
def separate (run : List Byte) (kind dest source seq : Byte) (payload : List Byte) (s : State) : State :=
  if kind = kindCommand ∧ dest = s.unitAddress then admitUnicast source seq payload s
  else if kind = kindCommand ∧ dest = 0x00 then admitBroadcast seq payload (forwardIfOutput run s)
  else forwardIfOutput run s

/-- A packet outside INIT: the gap limit and the payload limit first, then the check, then separation (R115, R125, R173). -/
def receivePacket (run : List Byte) (s : State) : State :=
  if Config.gapLimit ≤ s.rx.gapPackets then discardOverfull s
  else
    let s := { s with rx := { s.rx with gapPackets := s.rx.gapPackets + 1 } }
    match judgeRun run with
    | .overrun => discardOverfull s
    | .bad => { s with rx := { s.rx with checkFailures := saturate s.rx.checkFailures } }
    | .good kind dest source seq payload => separate run kind dest source seq payload s

/-- PACKET_RECEIVED (R125); in INIT it is a symbol of the bypassed stream (R116). -/
def execPacketReceived (run : List Byte) (s : State) : Result :=
  let s := s.ready
  .next (match s.rx.lock with
    | .init => emit (.pk run) s
    | _ => receivePacket run s)

/-! ### The frame watchdog (R121) -/

/-- Leave LOCKED at an expiry: the input frame in progress is ended there. -/
def loseLock (lock : LockState) (mode : OutputMode) (s : State) : State :=
  idleCompositor { s with
    rx := { s.rx with lock := lock, run := false, tracker := Tracker.reset, acquired := none }
    tx := { s.tx with mode := mode } }

/-- R138: the generator RUNNING with the held geometry, its first frame about to begin (log entry 25 for no geometry). -/
def startGenerator (s : State) : State :=
  { s with tx := { s.tx with generator := match s.rx.geometry with
      | some g => .running g .start s.settings.period
      | none => .idle } }

/-- R121, R138: the expiry in LOCKED with fallback enabled: the change is reported as the interrupted frame is ended, and
the generator starts. -/
def enterHoldover (s : State) : State :=
  startGenerator (endInterruptedFrame reportLockChange (loseLock .holdover .generate s))

/-- R121: the expiry in each state. -/
def expireWatchdog (s : State) : State :=
  let s := { s with rx := { s.rx with watchdog := none } }
  match s.rx.lock with
  | .locked => if s.settings.fallback then enterHoldover s else reportLockChange (loseLock .search .pass s)
  | .acquire => { s with rx := { s.rx with lock := .search, tracker := Tracker.reset } }
  | .holdover => { s with rx := { s.rx with tracker := Tracker.reset, acquired := none } }
  | .init => s
  | .search => s

/-- WATCHDOG_EXPIRY (R121): arises only while an interval is running. -/
def execWatchdogExpiry (s : State) : Result :=
  let s := s.ready
  .next (if s.rx.watchdog.isSome then expireWatchdog s else s)

/-! ### Reset (R116) -/

/-- RESETN_ASSERTED (R116, R21, R111, R131, R142, R158): every piece of state takes its hard reset value at once, whatever
was in progress. The stores wait for the sweep (R46, R47, R67), the unit address for the release, and the model's own
fields are no part of the reset. -/
def execResetnAsserted (s : State) : Result :=
  .next { State.reset with
    unitAddress := s.unitAddress, cells := s.cells, glyphs := s.glyphs, draws := s.draws, pending := s.pending }

/-- RESETN_RELEASED (R116): the straps are sampled and the sweep begins; arises only while RESETn is asserted. -/
def execResetnReleased (straps : BitVec 4) (s : State) : Result :=
  let s := s.ready
  .next (if s.resetn then { s with resetn := false, unitAddress := 0x80 + straps.setWidth 8 } else s)

/-- INITIALISATION_SWEEP_END (R116, R47, R67): every cell and glyph row is clear, the receiver enters SEARCH and the
transmitter PASS; arises only in INIT with RESETn released. -/
def execInitialisationSweepEnd (s : State) : Result :=
  let s := s.ready
  .next (if !s.resetn && s.rx.lock = .init then
    { s with
      cells := []
      glyphs := []
      rx := { s.rx with lock := .search }
      tx := { s.tx with mode := .pass } }
  else s)

end Sys2Proof.Machine
end

