-- ==== Sys2Proof/Machine/Generate.lean ====
section
/-! DEFINITION. The frame generator and the return to the input (R138 to R141, R124): the rows GENERATED_FRAME_START,
GENERATED_SYMBOL and RELOCK_SWITCH. -/

namespace Sys2Proof.Machine

/-- Set the generator's position, keeping its geometry and the length of its period. -/
def setGenerator (g : Geometry) (pos : GenPos) (period : Nat) (s : State) : State :=
  { s with tx := { s.tx with generator := .running g pos period } }

/-- R139, R140: a period begins: its length is the fallback period now in force, the gap before it closes, and its FS is a
composited frame start. -/
def beginGeneratedFrame (g : Geometry) (s : State) : State :=
  putSymbol .fs (orderedClose (compositedFrameStart (some g)) (setGenerator g (.line 0) s.settings.period s))

/-- GENERATED_FRAME_START (R139): arises at the first frame of HOLDOVER (R138), and at the end of a period unless a
successful acquisition makes the switch there (R124). -/
def execGeneratedFrameStart (s : State) : Result :=
  let s := s.ready
  .next (match s.tx.generator with
    | .running g .start _ => beginGeneratedFrame g s
    | .running g .ended _ =>
      match s.rx.acquired with
      | none => beginGeneratedFrame g s
      | some _ => s
    | _ => s)

/-- R139: the output of generated pixel `x` of line `k`: the live fill colour, read now, as the Compositor draws it. -/
def generatedPixel (g : Geometry) (k x : Nat) (s : State) : State :=
  if s.comp.frame = .drawing then
    let (out, s) := composePixel x (k - g.l0) s.scene.live.fill s
    putSymbol (.px out) s
  else putSymbol (.px s.scene.live.fill) s

/-- R139: the generator's next symbol. Each symbol closes the gap before it. -/
def generateSymbol (g : Geometry) (pos : GenPos) (period : Nat) (s : State) : State :=
  match pos with
  | .start => s
  | .ended => s
  | .line k =>
    let s := putSymbol (.ls k) (closeGap s)
    if g.active k then setGenerator g (.pixel k 0) period
      (if s.comp.frame = .drawing then composeLineStart (k - g.l0) s else s)
    else setGenerator g (.lineEnd k) period s
  | .pixel k x =>
    setGenerator g (if x + 1 < g.w then .pixel k (x + 1) else .lineEnd k) period (generatedPixel g k x (closeGap s))
  | .lineEnd k =>
    setGenerator g (if k + 1 < g.t then .line (k + 1) else .frameEnd) period (putSymbol .le (closeGap s))
  | .frameEnd => setGenerator g .ended period (idleCompositor (putSymbol .fe (closeGap s)))

/-- GENERATED_SYMBOL (R139): arises within a generated frame, from its first LS to its FE. -/
def execGeneratedSymbol (s : State) : Result :=
  let s := s.ready
  .next (match s.tx.generator with
    | .running g pos period => generateSymbol g pos period s
    | .idle => s)

/-- RELOCK_SWITCH (R124, R141): arises at the end of a generated frame after a successful background acquisition. The gap
after the generated FE closes with its insertion, the generator stops, the watchdog restarts, the transmitter enters AWAIT,
and the receiver enters LOCKED, which is reported. -/
def execRelockSwitch (s : State) : Result :=
  let s := s.ready
  .next (match s.rx.lock, s.tx.generator, s.rx.acquired with
    | .holdover, .running _ .ended _, some g =>
      let s := closeGap s
      enterLocked g false .await (restartWatchdog { s with tx := { s.tx with generator := .idle } })
    | _, _, _ => s)

end Sys2Proof.Machine
end

