-- ==== Sys2Proof/Machine/Glyphs.lean ====
section
/-! DEFINITION. The glyph commands (04_glyph_store.md, R68 to R73) and the step of CLEAR BANK. -/

namespace Sys2Proof.Machine

/-- Table 19: the operation's result on whole rows. -/
def glyphCombine (op : GlyphOp) (old data : Word) : Word :=
  match op with
  | .replace => data
  | .and => old &&& data
  | .or => old ||| data
  | .xor => old ^^^ data

/-- R70: the operation's result where the mask names the dot, the old dot elsewhere. -/
def glyphMerge (op : GlyphOp) (mask old data : Word) : Word :=
  (glyphCombine op old data &&& mask) ||| (old &&& ~~~mask)

/-- R69: combine the data rows with the rows from `first` on. -/
def writeGlyphRun (op : GlyphOp) (mask : Word) (bank code : Nat) : Nat → List Word → Store Word → Store Word
  | _, [], m => m
  | row, d :: rest, m =>
    writeGlyphRun op mask bank code (row + 1) rest
      (setGlyphRow m bank code row (glyphMerge op mask (glyphRow m bank code row) d))

/-- R69: check 2, check 3, and the run as one step. -/
def writeGlyphRows (e : Fin 4) (_x : Executing) (ops : List Byte) (s : State) : Verdict :=
  match ops with
  | bank :: code :: first :: count :: op :: mh :: ml :: rows =>
    match glyphOpOf op, glyphRowsOf rows with
    | some f, some data =>
      if bank.toNat ≤ 7 ∧ first.toNat ≤ 31 ∧ 1 ≤ count.toNat ∧ count.toNat ≤ 32
          ∧ first.toNat + count.toNat ≤ 32 ∧ data.length = count.toNat then
        controlOnly e s <|
          .done { s with glyphs :=
            writeGlyphRun f (mh ++ ml) bank.toNat code.toNat first.toNat data s.glyphs } []
      else .refuse .badOperand
    | _, _ => .refuse .badOperand
  | _ => .refuse .badOperand

/-- WRITE_GLYPH_ROWS (R69). -/
def execWriteGlyphRows (s : State) : Result :=
  .next (runCommand codeWriteGlyphRows writeGlyphRows s)

/-- R71: check 2, check 3, and the start of the long command. -/
def clearBank (e : Fin 4) (_x : Executing) (ops : List Byte) (s : State) : Verdict :=
  match ops with
  | [bank] =>
    if bank.toNat ≤ 7 then controlOnly e s (.long s (.clearBank bank.toNat 0)) else .refuse .badOperand
  | _ => .refuse .badOperand

/-- CLEAR_BANK (R71). -/
def execClearBank (s : State) : Result := .next (runCommand codeClearBank clearBank s)

/-- Clear the 32 rows of one glyph (R71). -/
def clearGlyph (bank code : Nat) (m : Store Word) : Store Word :=
  (List.range 32).foldl (fun m row => setGlyphRow m bank code row 0) m

/-- R71: one glyph step of the CLEAR BANK in flight; the step of code 255 ends the command. -/
def glyphStep (s : State) : State :=
  let s := s.ready
  match s.engine with
  | .executing x =>
    match x.packet.session, x.long with
    | some e, some (.clearBank bank done) =>
      let s' := { s with glyphs := clearGlyph bank done s.glyphs }
      if done + 1 < 256 then { s' with engine := .executing { x with long := some (.clearBank bank (done + 1)) } }
      else carryOn e (x.after []) s'
    | _, _ => s
  | _ => s

/-- GLYPH_STEP (R71). -/
def execGlyphStep (s : State) : Result := .next (glyphStep s)

/-- The 64 bytes of one glyph (R73). -/
def glyphData (m : Store Word) (bank code : Nat) : List Byte :=
  (List.range 32).flatMap fun row => glyphRowBytes (glyphRow m bank code row)

/-- R73. -/
def readGlyph (_e : Fin 4) (x : Executing) (ops : List Byte) (s : State) : Verdict :=
  match ops with
  | [bank, code] =>
    if bank.toNat ≤ 7 then Verdict.read x s (glyphData s.glyphs bank.toNat code.toNat) else .refuse .badOperand
  | _ => .refuse .badOperand

/-- READ_GLYPH (R73). -/
def execReadGlyph (s : State) : Result := .next (runCommand codeReadGlyph readGlyph s)

end Sys2Proof.Machine
end

