-- ==== Sys2Proof/Machine/SceneCommands.lean ====
section
/-! DEFINITION. COMMIT, DISCARD and SYNC COMMIT (01_the_scene_staging_commit_and_epochs.md, R8, R10, R11), and the rows
that take the stages of a composited frame start (R13, R14, R95, R155; log entry 4). -/

namespace Sys2Proof.Machine

/-- R8. -/
def commit (e : Fin 4) (_x : Executing) (ops : List Byte) (s : State) : Verdict :=
  match ops with
  | [mode, th, tl] =>
    match commitModeOf mode with
    | some m =>
      if s.scene.commit.pending then .refuse .commitPending
      else
        let target : Word := match m with
          | .next => 0
          | .at => th ++ tl
        .done { s with scene := { s.scene with commit := ⟨true, m, target, some e⟩ } } []
    | none => .refuse .badOperand
  | _ => .refuse .badOperand

/-- COMMIT (R8). -/
def execCommit (s : State) : Result := .next (runCommand codeCommit commit s)

/-- R10: the live scene less the slots on the teardown list goes into staging, and the record is cleared. -/
def discardScene (sc : SceneStore) : SceneStore :=
  { sc with staged := sc.teardown.foldl Scene.release sc.live, commit := CommitRecord.clear }

/-- R10. -/
def discard (_e : Fin 4) (_x : Executing) (ops : List Byte) (s : State) : Verdict :=
  noOperands ops (.done { s with scene := discardScene s.scene } [])

/-- DISCARD (R10). -/
def execDiscard (s : State) : Result := .next (runCommand codeDiscard discard s)

/-- R11: set the record if no commit is pending; otherwise leave it. -/
def syncRecord (target : Word) (c : CommitRecord) : CommitRecord :=
  if c.pending then c else ⟨true, .at, target, none⟩

/-- R11, R167: the SYNC COMMIT of a broadcast packet, or its refusal at check 2 or 3 in a session packet. -/
def syncCommit (s : State) : State :=
  let s := s.ready
  match s.engine with
  | .executing x =>
    if x.long = none ∧ x.rest.head? = some codeSyncCommit then
      match x.packet.session with
      | some e =>
        match operandsOf x.rest with
        | some [_, _] => refusePacket .notPermitted e x s
        | _ => refusePacket .badOperand e x s
      | none =>
        match operandsOf x.rest with
        | some [th, tl] =>
          carryOnBroadcast (x.after [])
            { s with scene := { s.scene with commit := syncRecord (th ++ tl) s.scene.commit } }
        | _ => { s with engine := nextHead s.commandQueue }
    else s
  | _ => s

/-- SYNC_COMMIT (R11). -/
def execSyncCommit (s : State) : Result := .next (syncCommit s)

/-! ### The stages of a composited frame start -/

/-- APPLY_TEARDOWN (R13): stage 2 of the frame start in hand; where none is owed the event does not arise. -/
def execApplyTeardown (s : State) : Result :=
  let s := { s with linkOut := [] }
  .next (if s.scene.stage = .teardownDue then teardownStage s else s)

/-- APPLY_COMMIT (R14): the Scene Store's remaining stages of the frame start in hand, through stage 3. -/
def execApplyCommit (s : State) : Result := .next (finishScene { s with linkOut := [] })

/-- BLINK_TOGGLE (R95): the comparison is made with the live period after the Scene Store's stages. -/
def execBlinkToggle (s : State) : Result :=
  .next (blinkCompare (finishScene { s with linkOut := [] }))

/-- R155: the lowest entry that has reached its limit ends. Its teardown request cannot fall between two stages of the Scene
Store (R12), so stages begun are finished first. After the last end the notices are offered; where the Scene Store's stages
are still to come, free choices say how many of them stay owed until then (R156; log entry 5). An entry that the ends free
goes to a notice or to the engine, as `offerNotice` says (R161). -/
def sessionExpiry (s : State) : State :=
  match s.expiringEntries with
  | [] => s
  | e :: rest =>
    let s := expireEntry e (match s.scene.stage with
      | .commitDue _ => finishScene s
      | _ => s)
    if rest.isEmpty then
      if s.scene.stage = .settled then offerOwedNotices s else offerSome s.expired s
    else s

/-- SESSION_EXPIRY (R155). -/
def execSessionExpiry (s : State) : Result := .next (sessionExpiry { s with linkOut := [] })

end Sys2Proof.Machine
end

