-- ==== Sys2Proof/Machine/Windows.lean ====
section
/-! DEFINITION. The window commands (02_windows_and_the_window_order.md, R30 to R43): each is a meaning of the Command
Engine over the packet in execution. -/

namespace Sys2Proof.Machine

/-! ### CLAIM WINDOW, RELEASE WINDOW -/

/-- Table 9, "Value at CLAIM WINDOW", owned by entry `e` (R30). -/
def claimedRecord (e : Fin 4) : WindowRecord where
  x := 0
  y := 0
  columns := 1
  rows := 1
  cellWidth := 8
  cellHeight := 16
  pitch := 1
  base := 0
  fine := 0
  bankA := 0
  bankB := 0
  palette := 0
  dualBank := false
  blinkEnable := true
  underlineLine := 31
  cursor := none
  border := none
  key := none
  split := none
  owner := e

/-- The lowest-numbered unclaimed slot (R30). -/
def Scene.lowestUnclaimed (sc : Scene) : Option (Fin 8) := allSlots.find? fun k => sc.windows[k].isNone

/-- R30: sealing, then NO_SLOT, then the data limit (R164), then the claim. -/
def claimWindow (e : Fin 4) (x : Executing) (ops : List Byte) (s : State) : Verdict :=
  noOperands ops <| unsealed s <|
    match s.scene.staged.lowestUnclaimed with
    | none => .refuse .noSlot
    | some k => Verdict.read x (s.setWindowRecord k (claimedRecord e)) [byte k.1]

/-- CLAIM_WINDOW (R30). -/
def execClaimWindow (s : State) : Result := .next (runCommand codeClaimWindow claimWindow s)

/-- R31. -/
def releaseWindow (e : Fin 4) (_x : Executing) (ops : List Byte) (s : State) : Verdict :=
  match ops with
  | [b] =>
    match slotOf b with
    | some slot => withWindow e slot s fun _ => .done (s.setStaged (s.scene.staged.release slot)) []
    | none => .refuse .badOperand
  | _ => .refuse .badOperand

/-- RELEASE_WINDOW (R31). -/
def execReleaseWindow (s : State) : Result := .next (runCommand codeReleaseWindow releaseWindow s)

/-! ### Writing a record -/

/-- The record check of R32 on the new record: the parts present must still fit it. -/
def partsFit (r : WindowRecord) : Bool :=
  footprintHeight r ≤ 2304 && match r.split with
    | some p => p.row ≤ r.rows - 1
    | none => true

/-- R32: check 2 first (it does not depend on the record), then checks 4 to 6 and the record check. -/
def setWindow (e : Fin 4) (_x : Executing) (ops : List Byte) (s : State) : Verdict :=
  match ops with
  | b :: group =>
    match slotOf b, recordGroupOf (claimedRecord e) group with
    | some slot, some _ =>
      editWindow e slot s fun r =>
        match recordGroupOf r group with
        | some r' => if partsFit r' then some r' else none
        | none => none
    | _, _ => .refuse .badOperand
  | [] => .refuse .badOperand

/-- SET_WINDOW (R32). -/
def execSetWindow (s : State) : Result := .next (runCommand codeSetWindow setWindow s)

/-- R33. -/
def moveWindow (e : Fin 4) (_x : Executing) (ops : List Byte) (s : State) : Verdict :=
  match ops with
  | [b, xh, xl, yh, yl] =>
    match slotOf b with
    | some slot =>
      if be16 xh xl ≤ 4095 ∧ be16 yh yl ≤ 2303 then
        editWindow e slot s fun r => some { r with x := be16 xh xl, y := be16 yh yl }
      else .refuse .badOperand
    | none => .refuse .badOperand
  | _ => .refuse .badOperand

/-- MOVE_WINDOW (R33). -/
def execMoveWindow (s : State) : Result := .next (runCommand codeMoveWindow moveWindow s)

/-- R34. -/
def setScroll (e : Fin 4) (_x : Executing) (ops : List Byte) (s : State) : Verdict :=
  match ops with
  | [b, bh, bl, fine] =>
    match slotOf b, cellIndexOf bh bl with
    | some slot, some base =>
      if fine.toNat ≤ 31 then
        editWindow e slot s fun r =>
          if fine.toNat < r.cellHeight then some { r with base := base, fine := fine.toNat } else none
      else .refuse .badOperand
    | _, _ => .refuse .badOperand
  | _ => .refuse .badOperand

/-- SET_SCROLL (R34). -/
def execSetScroll (s : State) : Result := .next (runCommand codeSetScroll setScroll s)

/-! ### Optional parts -/

/-- R35. -/
def setCursor (e : Fin 4) (_x : Executing) (ops : List Byte) (s : State) : Verdict :=
  match ops with
  | [b, ch, cl, start, stop, blink] =>
    match slotOf b, cursorOf ch cl start stop blink with
    | some slot, some c => editWindow e slot s fun r => some { r with cursor := some c }
    | _, _ => .refuse .badOperand
  | _ => .refuse .badOperand

/-- SET_CURSOR (R35). -/
def execSetCursor (s : State) : Result := .next (runCommand codeSetCursor setCursor s)

/-- R36. -/
def setBorder (e : Fin 4) (_x : Executing) (ops : List Byte) (s : State) : Verdict :=
  match ops with
  | [b, width, colour] =>
    match slotOf b, borderOf width colour with
    | some slot, some p =>
      editWindow e slot s fun r =>
        if footprintHeight { r with border := some p } ≤ 2304 then some { r with border := some p } else none
    | _, _ => .refuse .badOperand
  | _ => .refuse .badOperand

/-- SET_BORDER (R36). -/
def execSetBorder (s : State) : Result := .next (runCommand codeSetBorder setBorder s)

/-- R37. -/
def setKey (e : Fin 4) (_x : Executing) (ops : List Byte) (s : State) : Verdict :=
  match ops with
  | [b, kr, kg, kb, mr, mg, mb, sense] =>
    match slotOf b, keyOf kr kg kb mr mg mb sense with
    | some slot, some k => editWindow e slot s fun r => some { r with key := some k }
    | _, _ => .refuse .badOperand
  | _ => .refuse .badOperand

/-- SET_KEY (R37). -/
def execSetKey (s : State) : Result := .next (runCommand codeSetKey setKey s)

/-- R38. -/
def setSplit (e : Fin 4) (_x : Executing) (ops : List Byte) (s : State) : Verdict :=
  match ops with
  | [b, row, bh, bl] =>
    match slotOf b, splitOf row bh bl with
    | some slot, some p =>
      editWindow e slot s fun r => if p.row ≤ r.rows - 1 then some { r with split := some p } else none
    | _, _ => .refuse .badOperand
  | _ => .refuse .badOperand

/-- SET_SPLIT (R38). -/
def execSetSplit (s : State) : Result := .next (runCommand codeSetSplit setSplit s)

/-- A record without one part (R39). -/
def WindowRecord.without (r : WindowRecord) : PartName → WindowRecord
  | .cursor => { r with cursor := none }
  | .border => { r with border := none }
  | .key => { r with key := none }
  | .split => { r with split := none }

/-- R39: an absent part is cleared with no change. -/
def clearPart (e : Fin 4) (_x : Executing) (ops : List Byte) (s : State) : Verdict :=
  match ops with
  | [b, part] =>
    match slotOf b, partOf part with
    | some slot, some p => editWindow e slot s fun r => some (r.without p)
    | _, _ => .refuse .badOperand
  | _ => .refuse .badOperand

/-- CLEAR_PART (R39). -/
def execClearPart (s : State) : Result := .next (runCommand codeClearPart clearPart s)

/-! ### The Window Order -/

/-- Insert a slot immediately in front of a reference. -/
def insertAbove (slot reference : Fin 8) : List (Fin 8) → List (Fin 8)
  | [] => [slot]
  | k :: rest => if k = reference then slot :: k :: rest else k :: insertAbove slot reference rest

/-- Insert a slot immediately behind a reference. -/
def insertBelow (slot reference : Fin 8) : List (Fin 8) → List (Fin 8)
  | [] => [slot]
  | k :: rest => if k = reference then k :: slot :: rest else k :: insertBelow slot reference rest

/-- R40: remove the slot from its place and insert it at the placement. -/
def place (slot : Fin 8) (p : Placement) (order : List (Fin 8)) : List (Fin 8) :=
  let others := order.filter (· ≠ slot)
  match p with
  | .front => slot :: others
  | .back => others ++ [slot]
  | .above r => insertAbove slot r others
  | .below r => insertBelow slot r others

/-- The record check of SHOW WINDOW: a reference must stand in the Order (R40). -/
def referenceShown (p : Placement) (order : List (Fin 8)) : Bool :=
  match p with
  | .front => true
  | .back => true
  | .above r => order.contains r
  | .below r => order.contains r

/-- R40. -/
def showWindow (e : Fin 4) (_x : Executing) (ops : List Byte) (s : State) : Verdict :=
  match ops with
  | [b, placement, reference] =>
    match slotOf b with
    | some slot =>
      match placementOf slot placement reference with
      | some p =>
        withWindow e slot s fun _ =>
          let sc := s.scene.staged
          if referenceShown p sc.order then .done (s.setStaged { sc with order := place slot p sc.order }) []
          else .refuse .notShown
      | none => .refuse .badOperand
    | none => .refuse .badOperand
  | _ => .refuse .badOperand

/-- SHOW_WINDOW (R40). -/
def execShowWindow (s : State) : Result := .next (runCommand codeShowWindow showWindow s)

/-- R41. -/
def hideWindow (e : Fin 4) (_x : Executing) (ops : List Byte) (s : State) : Verdict :=
  match ops with
  | [b] =>
    match slotOf b with
    | some slot =>
      withWindow e slot s fun _ =>
        let sc := s.scene.staged
        .done (s.setStaged { sc with order := sc.order.filter (· ≠ slot) }) []
    | none => .refuse .badOperand
  | _ => .refuse .badOperand

/-- HIDE_WINDOW (R41). -/
def execHideWindow (s : State) : Result := .next (runCommand codeHideWindow hideWindow s)

/-! ### Reads -/

/-- R42, Table 51: the data of one slot. The peer address is 0xFF if the owner entry is CLOSED. -/
def windowData (live : Bool) (slot : Fin 8) (s : State) : List Byte :=
  let w := (s.selectScene live).windows[slot]
  let peer := match w with
    | some r => if (s.session r.owner).isOpen then (s.session r.owner).peer else 0xFF
    | none => 0xFF
  windowBytes w peer (live && s.scene.teardown.contains slot)

/-- R42. -/
def readWindow (_e : Fin 4) (x : Executing) (ops : List Byte) (s : State) : Verdict :=
  match ops with
  | [scene, b] =>
    match sceneSelector scene, slotOf b with
    | some live, some slot => Verdict.read x s (windowData live slot s)
    | _, _ => .refuse .badOperand
  | _ => .refuse .badOperand

/-- READ_WINDOW (R42). -/
def execReadWindow (s : State) : Result := .next (runCommand codeReadWindow readWindow s)

/-- R43: the number of entries and the slots, front first. -/
def orderData (order : List (Fin 8)) : List Byte := byte order.length :: order.map fun k => byte k.1

/-- R43. -/
def readOrder (_e : Fin 4) (x : Executing) (ops : List Byte) (s : State) : Verdict :=
  match ops with
  | [scene] =>
    match sceneSelector scene with
    | some live => Verdict.read x s (orderData (s.selectScene live).order)
    | none => .refuse .badOperand
  | _ => .refuse .badOperand

/-- READ_ORDER (R43). -/
def execReadOrder (s : State) : Result := .next (runCommand codeReadOrder readOrder s)

end Sys2Proof.Machine
end

