-- ==== Sys2Proof/Machine/Dispatch.lean ====
section
/-! DEFINITION. exec: one arm per row of the opcode table. -/

namespace Sys2Proof.Machine

/-- The effect of a command on everything but the queue. -/
def exec (i : Instr) (s : State) : Host.Outcome State Fault Refusal :=
  match i with
  | .resetnAsserted => Sys2Proof.Machine.execResetnAsserted s
  | .resetnReleased straps => Sys2Proof.Machine.execResetnReleased straps s
  | .initialisationSweepEnd => Sys2Proof.Machine.execInitialisationSweepEnd s
  | .frameStart => Sys2Proof.Machine.execFrameStart s
  | .lineStart number => Sys2Proof.Machine.execLineStart number s
  | .pixel colour => Sys2Proof.Machine.execPixel colour s
  | .lineEnd => Sys2Proof.Machine.execLineEnd s
  | .frameEnd => Sys2Proof.Machine.execFrameEnd s
  | .packetReceived run => Sys2Proof.Machine.execPacketReceived run s
  | .watchdogExpiry => Sys2Proof.Machine.execWatchdogExpiry s
  | .generatedFrameStart => Sys2Proof.Machine.execGeneratedFrameStart s
  | .generatedSymbol => Sys2Proof.Machine.execGeneratedSymbol s
  | .relockSwitch => Sys2Proof.Machine.execRelockSwitch s
  | .applyTeardown => Sys2Proof.Machine.execApplyTeardown s
  | .applyCommit => Sys2Proof.Machine.execApplyCommit s
  | .blinkToggle => Sys2Proof.Machine.execBlinkToggle s
  | .sessionExpiry => Sys2Proof.Machine.execSessionExpiry s
  | .takeHeadPacket => Sys2Proof.Machine.execTakeHeadPacket s
  | .cellStep => Sys2Proof.Machine.execCellStep s
  | .glyphStep => Sys2Proof.Machine.execGlyphStep s
  | .closeSession => Sys2Proof.Machine.execCloseSession s
  | .keepalive => Sys2Proof.Machine.execKeepalive s
  | .identify => Sys2Proof.Machine.execIdentify s
  | .readStatus => Sys2Proof.Machine.execReadStatus s
  | .clearCounters => Sys2Proof.Machine.execClearCounters s
  | .deviceSettings => Sys2Proof.Machine.execDeviceSettings s
  | .resetDevice => Sys2Proof.Machine.execResetDevice s
  | .claimWindow => Sys2Proof.Machine.execClaimWindow s
  | .releaseWindow => Sys2Proof.Machine.execReleaseWindow s
  | .setWindow => Sys2Proof.Machine.execSetWindow s
  | .moveWindow => Sys2Proof.Machine.execMoveWindow s
  | .setScroll => Sys2Proof.Machine.execSetScroll s
  | .setCursor => Sys2Proof.Machine.execSetCursor s
  | .setBorder => Sys2Proof.Machine.execSetBorder s
  | .setKey => Sys2Proof.Machine.execSetKey s
  | .setSplit => Sys2Proof.Machine.execSetSplit s
  | .clearPart => Sys2Proof.Machine.execClearPart s
  | .showWindow => Sys2Proof.Machine.execShowWindow s
  | .hideWindow => Sys2Proof.Machine.execHideWindow s
  | .readWindow => Sys2Proof.Machine.execReadWindow s
  | .readOrder => Sys2Proof.Machine.execReadOrder s
  | .writeCells => Sys2Proof.Machine.execWriteCells s
  | .fillCells => Sys2Proof.Machine.execFillCells s
  | .copyCells => Sys2Proof.Machine.execCopyCells s
  | .readCells => Sys2Proof.Machine.execReadCells s
  | .findCells => Sys2Proof.Machine.execFindCells s
  | .writeGlyphRows => Sys2Proof.Machine.execWriteGlyphRows s
  | .clearBank => Sys2Proof.Machine.execClearBank s
  | .readGlyph => Sys2Proof.Machine.execReadGlyph s
  | .setPalette => Sys2Proof.Machine.execSetPalette s
  | .setColours => Sys2Proof.Machine.execSetColours s
  | .setOptions => Sys2Proof.Machine.execSetOptions s
  | .readPalette => Sys2Proof.Machine.execReadPalette s
  | .readColours => Sys2Proof.Machine.execReadColours s
  | .commit => Sys2Proof.Machine.execCommit s
  | .discard => Sys2Proof.Machine.execDiscard s
  | .syncCommit => Sys2Proof.Machine.execSyncCommit s
  | .openSessionCommand => Sys2Proof.Machine.execOpenSessionCommand s

end Sys2Proof.Machine
end

