-- ==== Sys2Proof/Safety.lean ====
section
/-! DEFINITION. What claims about the part speak of: where a packet in execution stands, what check 2 of Table 11 admits, and
the laws a safe run keeps (R17, R23, R29, R78, R79, R143, R144, R162, Table 37, the canonical stores). -/

namespace Sys2Proof.Machine

/-! ### Where the part stands -/

/-- LINK OUT released. -/
def State.quiet (s : State) : State := { s with linkOut := [] }

/-- The last frame start is complete, and the packet `x` of entry `e` stands at a command of this code with these operand
bytes, no long command in flight. -/
abbrev State.standsAt (s : State) (code : Byte) (e : Fin 4) (x : Executing) (ops : List Byte) : Prop :=
  s.settled ∧ s.engine = .executing x ∧ x.packet.session = some e ∧ x.long = none
    ∧ x.rest.head? = some code ∧ operandsOf x.rest = some ops

/-- As `standsAt` for a broadcast packet. -/
abbrev State.broadcastAt (s : State) (code : Byte) (x : Executing) (ops : List Byte) : Prop :=
  s.settled ∧ s.engine = .executing x ∧ x.packet.session = none ∧ x.long = none
    ∧ x.rest.head? = some code ∧ operandsOf x.rest = some ops

/-- The last frame start is complete and the packet `x` of entry `e` has this long command in flight. -/
abbrev State.inFlight (s : State) (e : Fin 4) (x : Executing) (c : LongCommand) : Prop :=
  s.settled ∧ s.engine = .executing x ∧ x.packet.session = some e ∧ x.long = some c

/-- Checks 4, 5 and 6 pass for entry `e` on a slot holding record `r` (R27, R7). -/
abbrev State.mayEdit (s : State) (e : Fin 4) (slot : Fin 8) (r : WindowRecord) : Prop :=
  s.scene.staged.windows[slot] = some r ∧ ((s.session e).role = .control ∨ r.owner = e)
    ∧ s.scene.commit.pending = false

/-- Check 7 passes for entry `e` on these target cells (R52). -/
abbrev State.mayWrite (s : State) (e : Fin 4) (targets : List Nat) : Prop :=
  (s.session e).role = .control ∨ ∀ i ∈ targets, inOwnExtents s.scene.staged e i = true

/-- A read of `n` bytes passes the data limit (R164). -/
abbrev Executing.hasRoom (x : Executing) (n : Nat) : Prop := x.readData.length + n ≤ 200

/-! ### Check 2 of the commands that name a slot (Table 11) -/

/-- Whether two bytes hold a cell index. -/
def isCellIndex (hi lo : Byte) : Bool := be16 hi lo < 16384

/-- Table 9 and R32: the 17 bytes of a record group are in range. -/
def recordGroupInRange (g : List Byte) : Bool :=
  match g with
  | [xh, xl, yh, yl, cols, rows, cw, ch, pitch, bh, bl, fine, ba, bb, pal, opts, ul] =>
    be16 xh xl < 4096 && be16 yh yl < 2304 && 0 < cols.toNat && cols.toNat < 161 && 0 < rows.toNat && rows.toNat < 121
      && 3 < cw.toNat && cw.toNat < 17 && 3 < ch.toNat && ch.toNat < 33 && cols.toNat ≤ pitch.toNat
      && isCellIndex bh bl && fine.toNat < ch.toNat && ba.toNat < 8 && bb.toNat < 8 && pal.toNat < 4
      && opts.toNat < 4 && ul.toNat < 32 && rows.toNat * ch.toNat < 2305
  | _ => false

/-- Table 11, column "2": whether check 2 passes for a window command that names a slot in its first operand byte. -/
def windowOperandsInRange (i : Instr) (ops : List Byte) : Bool :=
  match ops with
  | [] => false
  | slot :: rest =>
    slot.toNat < 8 && match i, rest with
      | .releaseWindow, [] => true
      | .hideWindow, [] => true
      | .setWindow, group => recordGroupInRange group
      | .moveWindow, [xh, xl, yh, yl] => be16 xh xl < 4096 && be16 yh yl < 2304
      | .setScroll, [bh, bl, fine] => isCellIndex bh bl && fine.toNat < 32
      | .setCursor, [ch, cl, start, stop, blink] =>
        isCellIndex ch cl && start.toNat < 32 && stop.toNat < 32 && blink.toNat < 2
      | .setBorder, [width, _] => 0 < width.toNat && width.toNat < 9
      | .setKey, [_, _, _, _, _, _, sense] => sense.toNat < 2
      | .setSplit, [row, bh, bl] => 0 < row.toNat && row.toNat < 120 && isCellIndex bh bl
      | .clearPart, [part] => part.toNat < 4
      | .showWindow, [placement, reference] =>
        placement.toNat < 2 || (placement.toNat < 4 && reference.toNat < 8 && reference ≠ slot)
      | _, _ => false

/-- The window commands that name a slot and pass the window checks, with their codes (Table 11, Table 52). -/
def slotCommands : List (Instr × Byte) :=
  [(.releaseWindow, 0x11), (.setWindow, 0x12), (.moveWindow, 0x13), (.setScroll, 0x14), (.setCursor, 0x15),
   (.setBorder, 0x16), (.setKey, 0x17), (.setSplit, 0x18), (.clearPart, 0x19), (.showWindow, 0x1A), (.hideWindow, 0x1B)]

/-- Whether two bytes hold a count 1-16384. -/
def isCellCount (hi lo : Byte) : Bool := 0 < be16 hi lo && be16 hi lo < 16385

/-- Check 2 of the commands that name no slot of the window checks: the length and the ranges of Table 52 and the rule of each
command (R8, R10, R11, R30, R42, R43, R48 to R50, R53 to R59, R69, R71, R73, R85 to R89, R122, R163, R168 to R172). -/
def operandsInRange (i : Instr) (ops : List Byte) : Bool :=
  match i, ops with
  | .openSessionCommand, [role, lh, ll] => (role.toNat == 1 || role.toNat == 2) && 59 < be16 lh ll
  | .closeSession, [] => true
  | .keepalive, [] => true
  | .identify, [] => true
  | .readStatus, [flags] => flags.toNat < 2
  | .deviceSettings, [enable, a, b, c, d, ms] =>
    enable.toNat < 2 && 9999 < be16 a b * 65536 + be16 c d && be16 a b * 65536 + be16 c d < 100001
      && 19 < ms.toNat && ms.toNat < 251
  | .resetDevice, [] => true
  | .claimWindow, [] => true
  | .readWindow, [scene, slot] => scene.toNat < 2 && slot.toNat < 8
  | .readOrder, [scene] => scene.toNat < 2
  | .writeCells, sh :: sl :: mask :: cells =>
    isCellIndex sh sl && 0 < mask.toNat && mask.toNat < 16 && cells.length % 3 == 0 && 0 < cells.length
      && cells.length < 235 && (List.range (cells.length / 3)).all fun k => (cells.getD (3 * k + 2) 0).toNat < 16
  | .fillCells, [sh, sl, ch, cl, mask, _, _, flags] =>
    isCellIndex sh sl && isCellCount ch cl && 0 < mask.toNat && mask.toNat < 16 && flags.toNat < 16
  | .copyCells, [sh, sl, sp, dh, dl, dp, width, height] =>
    isCellIndex sh sl && 0 < sp.toNat && isCellIndex dh dl && 0 < dp.toNat && 0 < width.toNat && width.toNat < 161
      && 0 < height.toNat && height.toNat < 121
  | .readCells, [sh, sl, count] => isCellIndex sh sl && 0 < count.toNat && count.toNat < 65
  | .findCells, [sh, sl, ch, cl, _, _, flags, mask] =>
    isCellIndex sh sl && isCellCount ch cl && flags.toNat < 16 && mask.toNat < 16
  | .writeGlyphRows, bank :: _ :: first :: count :: op :: _ :: _ :: rows =>
    bank.toNat < 8 && first.toNat < 32 && 0 < count.toNat && count.toNat < 33 && first.toNat + count.toNat < 33
      && op.toNat < 4 && rows.length == 2 * count.toNat
  | .clearBank, [bank] => bank.toNat < 8
  | .readGlyph, [bank, _] => bank.toNat < 8
  | .setPalette, p :: first :: indices =>
    p.toNat < 4 && first.toNat < 16 && 0 < indices.length && first.toNat + indices.length < 17
  | .setColours, first :: entries =>
    entries.length % 4 == 0 && 0 < entries.length && entries.length < 233 && first.toNat + entries.length / 4 < 257
      && (List.range (entries.length / 4)).all fun k => (entries.getD (4 * k + 3) 0).toNat < 9
  | .setOptions, [period, _, _, _, _] => 1 < period.toNat && period.toNat < 121
  | .readPalette, [scene, p] => scene.toNat < 2 && p.toNat < 4
  | .readColours, [scene, first, count] =>
    scene.toNat < 2 && 0 < count.toNat && count.toNat < 51 && first.toNat + count.toNat < 257
  | .commit, [mode, _, _] => mode.toNat < 2
  | .discard, [] => true
  | .syncCommit, [_, _] => true
  | _, _ => false

/-- The commands whose check 2 is `operandsInRange`, with their codes (Table 52). -/
def plainCommands : List (Instr × Byte) :=
  [(.openSessionCommand, 0x01), (.closeSession, 0x02), (.keepalive, 0x03), (.identify, 0x04), (.readStatus, 0x05),
   (.deviceSettings, 0x06), (.resetDevice, 0x07), (.claimWindow, 0x10), (.readWindow, 0x1C), (.readOrder, 0x1D),
   (.writeCells, 0x20), (.fillCells, 0x21), (.copyCells, 0x22), (.readCells, 0x23), (.findCells, 0x24),
   (.writeGlyphRows, 0x30), (.clearBank, 0x31), (.readGlyph, 0x32), (.setPalette, 0x40), (.setColours, 0x41),
   (.setOptions, 0x42), (.readPalette, 0x43), (.readColours, 0x44), (.commit, 0x50), (.discard, 0x51),
   (.syncCommit, 0x52)]

/-! ### Resets, the link and packets -/

/-- The values of a CLOSED entry (R144). -/
def closedEntry : Session := ⟨false, 0xFF, .client, 1, 0, none, false, 0, 60, false, false⟩

/-- Table 8 for one scene. -/
def Scene.atReset (sc : Scene) : Prop :=
  (∀ k : Fin 8, sc.windows[k] = none) ∧ sc.order = []
  ∧ (∀ (p : Fin 4) (e : Fin 16), (sc.palettes[p])[e] = BitVec.ofNat 8 e.1)
  ∧ (∀ i : Fin 256, sc.colours[i] = ⟨⟨0, 0, 0⟩, 0⟩)
  ∧ sc.indexMask = 255 ∧ sc.blinkPeriod = 32 ∧ sc.fill = ⟨0, 0, 0⟩

/-- The values hard reset gives (R21, R111, R116, R122, R130, R144, R161, 8.1). -/
def State.atHardReset (t : State) : Prop :=
  t.resetn = true ∧ t.scene.staged.atReset ∧ t.scene.live.atReset
  ∧ t.scene.commit = ⟨false, .next, 0, none⟩ ∧ t.scene.teardown = [] ∧ t.scene.frameCounter = 0 ∧ t.scene.epoch = 0
  ∧ (∀ e : Fin 4, t.session e = closedEntry) ∧ t.engine = .idle ∧ t.commandQueue = [] ∧ t.replyQueue = []
  ∧ t.settings = ⟨false, 16667, 100⟩
  ∧ t.rx.lock = .init ∧ t.rx.geometry = none ∧ t.rx.tracker = ⟨.waiting, none⟩ ∧ t.rx.watchdog = none
  ∧ t.rx.run = false ∧ t.rx.checkFailures = 0 ∧ t.rx.damagedFrames = 0
  ∧ t.comp.frame = .idle ∧ (∀ k : Fin 8, t.comp.caches[k] = []) ∧ (∀ k : Fin 8, t.comp.rows[k] = none)
  ∧ t.comp.blinkCounter = 0 ∧ t.comp.blinkOn = true
  ∧ t.tx.mode = .bypass ∧ t.tx.gap = none ∧ t.tx.generator = .idle

/-- The state after a packet that the gap limit lets in has been taken, before what it brings about (R115). -/
def State.counted (s : State) : State := { s.quiet with rx := { s.rx with gapPackets := s.rx.gapPackets + 1 } }

/-- A packet with a good check word arrives outside INIT within the limits of its gap (R115, R125). -/
abbrev State.takes (s : State) (run : List Byte) (kind dest source seq : Byte) (payload : List Byte) : Prop :=
  s.settled ∧ s.rx.lock ≠ .init ∧ s.rx.gapPackets < 3 ∧ judgeRun run = .good kind dest source seq payload

/-- A command packet for this unit from a controller address arrives (R125, R145). -/
abbrev State.takesCommand (s : State) (run : List Byte) (source seq : Byte) (payload : List Byte) : Prop :=
  s.takes run 0xC1 s.unitAddress source seq payload
    ∧ source ≠ 0 ∧ source ≠ 0xFF ∧ ¬ (0x80 ≤ source.toNat ∧ source.toNat ≤ 0x8F)

/-- No OPEN entry holds the peer address. -/
abbrev State.stranger (s : State) (peer : Byte) : Prop := ∀ e : Fin 4, (s.session e).isOpen = true → (s.session e).peer ≠ peer

/-- Entry `e` is OPEN for the peer, and no other entry is (R143). -/
abbrev State.holds (s : State) (peer : Byte) (e : Fin 4) : Prop :=
  (s.session e).isOpen = true ∧ (s.session e).peer = peer
    ∧ ∀ a : Fin 4, (s.session a).isOpen = true → (s.session a).peer = peer → a = e

/-- The Reply Queue has an unreserved free entry (R145, R161). -/
abbrev State.hasReplyRoom (s : State) : Prop := s.replyQueue.length + s.reservations < 8

/-- The header and data of a reply (Table 53). -/
def replyBytes (status failed executed : Nat) (overrun noticeLost pending : Bool) (epoch frame : Word)
    (data : List Byte) : List Byte :=
  [byte status, byte failed, byte executed,
    byte ((if overrun then 1 else 0) + (if noticeLost then 2 else 0) + (if pending then 4 else 0))]
    ++ bytes16 epoch.toNat ++ bytes16 frame.toNat ++ byte data.length :: data

/-- An admission reply: a reply packet with no session's flags, carrying the commit flag, epoch and frame counter as they
stand (R145, R153). -/
def State.admissionEntry (s : State) (status failed executed : Nat) (dest seq : Byte) (data : List Byte) : Outgoing :=
  ⟨.reply, dest, seq,
    replyBytes status failed executed false false s.scene.commit.pending s.scene.epoch s.scene.frameCounter data⟩

/-- The state after a packet is taken and forwarded where the output forwards packets: the packet leaves in its place, and
joins the gap in hand or opens a run of kind "other" (R132, R134). -/
def State.passedOn (s : State) (run : List Byte) : State :=
  { s.counted with
    linkOut := [.pk run]
    tx := { s.tx with gap := match s.tx.gap with
      | some g => some ⟨g.kind, g.forwarded ++ [run]⟩
      | none => some ⟨.other, [run]⟩ } }

/-- Entry `c` is the one OPEN entry with role CONTROL. -/
abbrev State.control (s : State) (c : Fin 4) : Prop :=
  ∀ a : Fin 4, (s.session a).isOpen = true ∧ (s.session a).role = .control ↔ a = c

/-- No OPEN entry has role CONTROL. -/
abbrev State.noControl (s : State) : Prop :=
  ∀ a : Fin 4, (s.session a).isOpen = true → (s.session a).role ≠ .control

/-- The engine is about to test a session packet (R161). -/
abbrev State.testsSession (s : State) : Prop :=
  s.engine = .testing ∧ ∃ p rest, s.commandQueue = p :: rest ∧ p.session ≠ none

/-- R161: the engine seeks the one entry of the Reply Queue that is still free, so a notice and it contest that entry. -/
abbrev State.contested (s : State) : Prop := s.testsSession ∧ s.replyQueue.length = 7

/-- R159: between `s` and `t` a notice to entry `c` was lost: no entry joined, and the flag was set. -/
def noticeDropped (s t : State) (c : Fin 4) : Prop :=
  t.replyQueue = s.replyQueue ∧ t.session c = { s.session c with noticeLost := true }
    ∧ ∀ a : Fin 4, a ≠ c → t.session a = s.session a

/-- R159, R161: between `s` and `t` a notice was offered to OPEN entry `c`: it joined the Reply Queue, or it was lost, for want
of a free entry or because the engine reserved the last one first. -/
def noticeOffered (s t : State) (c : Fin 4) (payload : List Byte) : Prop :=
  (s.hasReplyRoom →
      (t.replyQueue = s.replyQueue ++ [⟨.notice, (s.session c).peer, 0, payload⟩] ∧ t.sessions = s.sessions
        ∧ t.engine = s.engine)
      ∨ (s.contested ∧ noticeDropped s t c ∧ t.engine = .reserved))
  ∧ (¬ s.hasReplyRoom → noticeDropped s t c ∧ t.engine = s.engine)

/-- R156, R159, R161: between `u` and `t` the SESSION_ENDED notices of these peers were offered, in order, to the CONTROL session
if one is open: as many joined as the Reply Queue had unreserved free entries, less the last of these where they sought it and
the engine reserved it first, and the flag says whether one was lost. -/
def endsTold (u t : State) (peers : List Byte) : Prop :=
  (u.noControl → t.replyQueue = u.replyQueue ∧ t.sessions = u.sessions ∧ t.engine = u.engine)
  ∧ ∀ c, u.control c →
    let free := 8 - (u.replyQueue.length + u.reservations)
    ∃ n, ((n = free ∧ t.engine = u.engine)
        ∨ (u.testsSession ∧ n + 1 = free ∧ free ≤ peers.length ∧ t.engine = .reserved))
    ∧ t.replyQueue = u.replyQueue
        ++ (peers.take n).map (fun peer => ⟨.notice, (u.session c).peer, 0, [0x02, peer, 0x01]⟩)
    ∧ t.session c = (if peers.length ≤ n then u.session c else { u.session c with noticeLost := true })
    ∧ ∀ a : Fin 4, a ≠ c → t.session a = u.session a

/-- The packets that the first `n` entries of the Reply Queue are sent as (R136, Table 38). -/
def State.packetsOf (s : State) (n : Nat) : List Symbol :=
  (s.replyQueue.take n).map fun o =>
    .pk (packetBytes (if o.kind = .reply then 0xA5 else 0xA6) o.dest s.unitAddress o.seq o.payload)

/-! ### Input symbols -/

/-- The symbol an input row takes (Table 32); none for the rows that take no symbol. -/
def symbolOf : Instr → Option Symbol
  | .frameStart => some .fs
  | .lineStart n => some (.ls n)
  | .pixel p => some (.px p)
  | .lineEnd => some .le
  | .frameEnd => some .fe
  | _ => none

/-- A composited frame start taken now tells nobody: the notices of R15 and R156 have no session to go to, or no commit is
pending and no session reaches its limit. -/
abbrev State.startsUntold (s : State) : Prop :=
  (s.noControl ∧ s.scene.commit.issuer = none)
  ∨ (s.scene.commit.pending = false
      ∧ ∀ e : Fin 4, (s.session e).isOpen = true → (s.session e).idle + 1 ≠ (s.session e).limit)

/-- An input symbol taken now brings no notice about (R15, R128, R156): none has a session to go to, or the symbol neither
enters nor leaves LOCKED, nor is it a composited frame start that tells anybody. -/
abbrev State.untold (s : State) (sym : Symbol) : Prop :=
  (s.noControl ∧ s.scene.commit.issuer = none)
  ∨ (s.rx.lock ≠ .locked ∧ sym ≠ .fe)
  ∨ (s.rx.lock = .locked ∧ s.rx.run = false ∧ (sym ≠ .fs ∨ s.startsUntold))

/-- R134, R135, R137: between `s` and `t` the gap in hand closes before the symbol `out`, and the notices `told` of the row join
the Reply Queue. A blanking gap takes the oldest entries up to three less its forwarded packets: all that stood there first,
and a notice only behind them; what it leaves stays. Another gap, or none, takes nothing. `untold` says that the row brings no
notice about. -/
def closesBefore (s t : State) (out : Symbol) (untold : Prop) : Prop :=
  ∃ told : List Outgoing, (∀ o ∈ told, o.kind = .notice ∧ o.seq = 0) ∧ (untold → told = []) ∧
    let joined : State := { s with replyQueue := s.replyQueue ++ told }
    (∀ forwarded, s.tx.gap = some ⟨.blanking, forwarded⟩ →
      let room := 3 - forwarded.length
      (∃ n, min room s.replyQueue.length ≤ n ∧ n ≤ min room joined.replyQueue.length
        ∧ t.linkOut = joined.packetsOf n ++ [out] ∧ t.replyQueue = joined.replyQueue.drop n)
      ∧ (s.replyQueue ≠ [] → 0 < room → t.engine ≠ .waiting))
    ∧ ((∀ p, s.tx.gap = some p → p.kind ≠ .blanking) → t.linkOut = [out] ∧ t.replyQueue = joined.replyQueue)

/-! ### Frames in LOCKED -/

/-- The receiver is LOCKED at `g` with the output composing, and the last frame start is complete. -/
abbrev State.composing (s : State) (g : Geometry) : Prop :=
  s.settled ∧ s.rx.lock = .locked ∧ s.rx.geometry = some g ∧ s.tx.mode = .compose

/-- A frame of geometry `g` is being drawn and the next pixel stands at column `x` of active line `y` (R93, R109). -/
abbrev State.drawing (s : State) (g : Geometry) (x y : Nat) : Prop :=
  s.composing g ∧ s.comp.frame = .drawing ∧ s.comp.geometry = some g
    ∧ (∃ next, s.rx.frame = ⟨true, .inFrame next (some ⟨g.l0 + y, x⟩), false⟩) ∧ y < g.h ∧ x < g.w

/-- Table 34: a symbol other than FS departs from the locked geometry. -/
def departs (g : Geometry) (pos : FramePos) : Instr → Prop
  | .lineStart n =>
    match pos with
    | .inFrame next none => n ≠ next ∨ g.t ≤ next
    | _ => True
  | .pixel _ =>
    match pos with
    | .inFrame _ (some l) => l.number < g.l0 ∨ g.l0 + g.h ≤ l.number ∨ g.w ≤ l.pixels
    | _ => True
  | .lineEnd =>
    match pos with
    | .inFrame _ (some l) => g.l0 ≤ l.number ∧ l.number < g.l0 + g.h ∧ l.pixels < g.w
    | _ => True
  | .frameEnd =>
    match pos with
    | .inFrame next none => next ≠ g.t
    | _ => True
  | _ => False

/-- R60, R61, R101: between `s` and `b` none, some or all of the fetches the line owes were taken, of the cells as they stood in
`s`; the others stay owed, and nothing else of the Compositor changed. -/
def fetchesTaken (s b : State) : Prop :=
  let taken (k : Fin 8) (f : RowState) (r : WindowRecord) : Prop :=
    b.comp.caches[k] = rowCells s.cells r.columns f.first ∧ b.comp.rows[k] = some f
  let kept (k : Fin 8) : Prop := b.comp.caches[k] = s.comp.caches[k] ∧ b.comp.rows[k] = s.comp.rows[k]
  b.comp = { s.comp with caches := b.comp.caches, rows := b.comp.rows, owed := b.comp.owed }
  ∧ b.comp.owed.Sublist s.comp.owed
  ∧ (∀ k : Fin 8, kept k ∨ ∃ f r, (k, f) ∈ s.comp.owed ∧ s.scene.live.windows[k] = some r ∧ taken k f r)
  ∧ ((s.comp.owed.map Prod.fst).Nodup → ∀ k f r, (k, f) ∈ s.comp.owed → s.scene.live.windows[k] = some r →
      ((k, f) ∈ b.comp.owed ∧ kept k) ∨ ((k, f) ∉ b.comp.owed ∧ taken k f r))

/-- R99, R100: the window fetches the row `f` at the line start of active line `y`. -/
def fetchDue (r : WindowRecord) (y : Nat) (f : RowState) : Prop :=
  r.y ≤ y ∧ y < r.y + r.rows * r.cellHeight ∧
    let d := y - r.y
    let up := (d + r.fine) / r.cellHeight
    let upper := (d = 0 ∨ (d + r.fine) % r.cellHeight = 0) ∧ f = ⟨.upper, up, (r.base + up * r.pitch) % 16384⟩
    match r.split with
    | none => upper
    | some p =>
      (d < p.row * r.cellHeight ∧ upper)
      ∨ (p.row * r.cellHeight ≤ d ∧ d % r.cellHeight = 0
        ∧ f = ⟨.split, d / r.cellHeight, (p.base + (d / r.cellHeight - p.row) * r.pitch) % 16384⟩)

/-- The width of the border, 0 when absent (R25). -/
def borderWidth (r : WindowRecord) : Nat :=
  match r.border with
  | some b => b.width
  | none => 0

/-- A point lies in a window's footprint (R25, R102). -/
def covers (r : WindowRecord) (x y : Nat) : Prop :=
  r.x ≤ x + borderWidth r ∧ x < r.x + r.columns * r.cellWidth + borderWidth r
    ∧ r.y ≤ y + borderWidth r ∧ y < r.y + r.rows * r.cellHeight + borderWidth r

/-- A point lies in a window's content (R102). -/
def inContent (r : WindowRecord) (x y : Nat) : Prop :=
  r.x ≤ x ∧ x < r.x + r.columns * r.cellWidth ∧ r.y ≤ y ∧ y < r.y + r.rows * r.cellHeight

/-- The scan line of active line `y` in a window (R99, R100). -/
def scanLine (r : WindowRecord) (y : Nat) : Nat :=
  match r.split with
  | none => (y - r.y + r.fine) % r.cellHeight
  | some p =>
    if p.row * r.cellHeight ≤ y - r.y then (y - r.y) % r.cellHeight else (y - r.y + r.fine) % r.cellHeight

/-- One component after a blend step (R82). -/
def blended (c : Nat) (above under : Byte) : Byte := BitVec.ofNat 8 ((c * above.toNat + (8 - c) * under.toNat) / 8)

/-- A colour after a blend step with an output entry. -/
def blendedWith (entry : ColourEntry) (c : Nat) (under : RGB) : RGB :=
  ⟨blended c entry.colour.r under.r, blended c entry.colour.g under.g, blended c entry.colour.b under.b⟩

/-- The pixel matches the key: every bit the mask names agrees (R83). -/
def keyMatches (k : Key) (p : RGB) : Prop :=
  (∀ i : Fin 8, k.mask.r.getLsbD i = true → p.r.getLsbD i = k.colour.r.getLsbD i)
  ∧ (∀ i : Fin 8, k.mask.g.getLsbD i = true → p.g.getLsbD i = k.colour.g.getLsbD i)
  ∧ (∀ i : Fin 8, k.mask.b.getLsbD i = true → p.b.getLsbD i = k.colour.b.getLsbD i)

/-- The window's key passes at an original pixel (R83). -/
def passesKey (r : WindowRecord) (p : RGB) : Prop :=
  match r.key with
  | none => True
  | some k =>
    match k.sense with
    | .isMatch => keyMatches k p
    | .noMatch => ¬ keyMatches k p

/-! ### Rows of the packet in execution -/

/-- The rows that carry out a command of the packet in execution, with their codes (Table 52). -/
def commandRows : List (Instr × Byte) := plainCommands ++ slotCommands

/-! ### The laws of a safe run -/

/-- R162. -/
def QueueBounds (s : State) : Prop :=
  s.commandQueue.length ≤ 4 ∧ s.replyQueue.length + s.reservations ≤ 8

/-- R161: with no packet in execution the engine is IDLE exactly when the Command Queue is empty, and it holds an entry reserved
only for a session packet at the head. -/
def EngineLaw (s : State) : Prop :=
  match s.engine with
  | .idle => s.commandQueue = []
  | .testing => s.commandQueue ≠ []
  | .reserved => ∃ p, s.commandQueue.head? = some p ∧ p.session ≠ none
  | .waiting => s.commandQueue ≠ []
  | .executing _ => True

/-- R143, R144: no two OPEN entries of one peer, no two OPEN entries with CONTROL, at most three with CLIENT, and every
CLOSED entry at its fixed values. -/
def SessionLaw (s : State) : Prop :=
  (∀ a b : Fin 4, (s.session a).isOpen = true → (s.session b).isOpen = true → (s.session a).peer = (s.session b).peer → a = b)
  ∧ (∀ a b : Fin 4, (s.session a).isOpen = true → (s.session b).isOpen = true →
      (s.session a).role = .control → (s.session b).role = .control → a = b)
  ∧ s.clientCount ≤ 3
  ∧ ∀ a : Fin 4, (s.session a).isOpen = false → s.session a = Session.closed

/-- R23, Table 9: the ranges of a record and of its parts, and the four relations. -/
def RecordLaw (r : WindowRecord) : Prop :=
  r.x ≤ 4095 ∧ r.y ≤ 2303 ∧ 1 ≤ r.columns ∧ r.columns ≤ 160 ∧ 1 ≤ r.rows ∧ r.rows ≤ 120
  ∧ 4 ≤ r.cellWidth ∧ r.cellWidth ≤ 16 ∧ 4 ≤ r.cellHeight ∧ r.cellHeight ≤ 32
  ∧ r.columns ≤ r.pitch ∧ r.pitch ≤ 255 ∧ r.base ≤ 16383 ∧ r.fine < r.cellHeight
  ∧ r.bankA ≤ 7 ∧ r.bankB ≤ 7 ∧ r.underlineLine ≤ 31
  ∧ (∀ c, r.cursor = some c → c.cell ≤ 16383 ∧ c.startLine ≤ 31 ∧ c.endLine ≤ 31)
  ∧ (∀ b, r.border = some b → 1 ≤ b.width ∧ b.width ≤ 8)
  ∧ (∀ p, r.split = some p → 1 ≤ p.row ∧ p.row ≤ r.rows - 1 ∧ p.base ≤ 16383)
  ∧ footprintHeight r ≤ 2304

/-- Every record of a scene keeps R23. -/
def RecordsLaw (sc : Scene) : Prop := ∀ (k : Fin 8) (r : WindowRecord), sc.windows[k] = some r → RecordLaw r

/-- R29: an Order lists at most 8 slots, each once and each claimed. -/
def OrderLaw (sc : Scene) : Prop :=
  sc.order.length ≤ 8 ∧ sc.order.Nodup ∧ ∀ k ∈ sc.order, (sc.windows[k]).isSome = true

/-- R78, R79: coverages lie in 0-8 and the blink period in 2-120. -/
def ColourLaw (sc : Scene) : Prop :=
  (∀ i : Fin 256, (sc.colours[i]).coverage ≤ 8) ∧ 2 ≤ sc.blinkPeriod ∧ sc.blinkPeriod ≤ 120

/-- R17, with what keeps it: the owner of a claimed staged slot is OPEN, the owner of a claimed live slot is OPEN or the slot
awaits teardown, the commit issuer is OPEN, and queued and executing packets belong to OPEN sessions. -/
def OwnerLaw (s : State) : Prop :=
  (∀ (k : Fin 8) (r : WindowRecord), s.scene.staged.windows[k] = some r → (s.session r.owner).isOpen = true)
  ∧ (∀ (k : Fin 8) (r : WindowRecord), s.scene.live.windows[k] = some r →
      k ∈ s.scene.teardown ∨ (s.session r.owner).isOpen = true)
  ∧ (∀ e, s.scene.commit.issuer = some e → (s.session e).isOpen = true)
  ∧ (∀ p ∈ s.commandQueue, ∀ e, p.session = some e → (s.session e).isOpen = true)
  ∧ (∀ x, s.engine = .executing x → ∀ e, x.packet.session = some e → (s.session e).isOpen = true)

/-- The Cell Buffer and the Glyph Store keep their canonical form and their bounds (R46, R65). -/
def StoresCanonical (s : State) : Prop :=
  Store.wf Cell.clear 16384 s.cells ∧ Store.wf (0 : Word) 65536 s.glyphs

/-- Every long command in flight names cells, codes and banks that exist (R56, R57, R59, R71). -/
def LongInRange (s : State) : Prop :=
  ∀ x, s.engine = .executing x → ∀ bank done, x.long = some (.clearBank bank done) → bank ≤ 7 ∧ done ≤ 255

/-- Table 37 and 8.1: the output mode follows the lock state, frames are unjudged in AWAIT, the generator runs exactly in
HOLDOVER, and LOCKED and HOLDOVER hold a geometry. -/
def ModeLaw (s : State) : Prop :=
  (s.rx.lock = .init ↔ s.tx.mode = .bypass)
  ∧ (s.tx.mode = .pass ↔ s.rx.lock = .search ∨ s.rx.lock = .acquire)
  ∧ (s.rx.lock = .locked ↔ s.tx.mode = .compose ∨ s.tx.mode = .await)
  ∧ (s.rx.lock = .holdover ↔ s.tx.mode = .generate)
  ∧ (s.tx.mode = .await → s.rx.frame.judged = false)
  ∧ (s.rx.lock = .holdover ↔ s.tx.generator ≠ .idle)
  ∧ (s.rx.lock = .locked ∨ s.rx.lock = .holdover → s.rx.geometry.isSome = true)

/-- R121: the frame watchdog is stopped in INIT and SEARCH. -/
def WatchdogLaw (s : State) : Prop :=
  s.rx.lock = .init ∨ s.rx.lock = .search → s.rx.watchdog = none

/-- R116: the unit address is 0x80 plus a strap value. -/
def UnitLaw (s : State) : Prop := 0x80 ≤ s.unitAddress.toNat ∧ s.unitAddress.toNat ≤ 0x8F

end Sys2Proof.Machine
end

