-- ==== Sys2Proof/Certificates/Slice0/Obligations.lean ====
section
/-! DEFINITION. The statements for the provers. Each docstring names the rules of spec/ that the statement rests on. -/

section

open Sys2Proof Sys2Proof.Machine

/-! ### Steps -/

/-- A step takes the command at the front of the queue and runs it on the state with the queue's rest; on an empty queue the
part idles (the model's choice, log entry 2). -/
def Obligations.StepRunsTheFrontCommand : Prop :=
  (∀ (c : Instr) (rest : List Instr) (s : State), s.pending = c :: rest → step s = exec c { s with pending := rest })
  ∧ ∀ s : State, s.pending = [] → step s = .next s

/-- Every command, in every state, answers a next state and leaves the queue as it stands: nothing stops the part. -/
def Obligations.EveryCommandAnswersAndKeepsTheQueue : Prop :=
  ∀ (c : Instr) (s : State), ∃ t, exec c s = .next t ∧ t.pending = s.pending

/-- R12: no event is taken between two stages of a frame start. Every row but hard reset and the rows of the stages finds
the stages of the last frame start complete (log entry 4). The premise on the blink periods is kept by R79. -/
def Obligations.FrameStartStagesComeFirst : Prop :=
  ∀ (c : Instr) (s : State),
    c ∉ [Instr.resetnAsserted, .applyTeardown, .applyCommit, .blinkToggle, .sessionExpiry] →
    0 < s.scene.live.blinkPeriod → 0 < s.scene.staged.blinkPeriod →
      exec c s = exec c s.ready ∧ s.ready.settled ∧ s.ready.linkOut = []

/-! ### Reset and start-up -/

/-- R21, R111, R116, R122, R130, R144, R161, 8.1: hard reset, from any state, leaves the reset values; the state after reset
holds the same values. That the row keeps the stores and the unit address as they stand, the stores until the sweep (R46,
R47, R65, R67) and the address until the release (R116), is the model's choice (log entry 8). -/
def Obligations.HardResetTakesTheResetValues : Prop :=
  State.reset.atHardReset
  ∧ ∀ s : State, ∃ t, exec .resetnAsserted s = .next t ∧ t.atHardReset
      ∧ t.cells = s.cells ∧ t.glyphs = s.glyphs ∧ t.unitAddress = s.unitAddress

/-- R116, R47, R67, R130: the release fixes the unit address at 0x80 plus the straps; the end of the sweep finds every cell
and dot clear, the receiver in SEARCH and the transmitter in PASS. Nothing else changes. -/
def Obligations.ReleaseAndSweepStartThePart : Prop :=
  (∀ (straps : BitVec 4) (s : State), s.settled → s.resetn = true → ∃ unit : Byte,
    unit.toNat = 0x80 + straps.toNat
    ∧ exec (.resetnReleased straps) s = .next { s.quiet with resetn := false, unitAddress := unit })
  ∧ ∀ s : State, s.settled → s.resetn = false → s.rx.lock = .init → ∃ t,
      exec .initialisationSweepEnd s = .next t
      ∧ t = { s.quiet with
          cells := t.cells, glyphs := t.glyphs
          rx := { s.rx with lock := .search }, tx := { s.tx with mode := .pass } }
      ∧ (∀ i, cellAt t.cells i = ⟨0, 0, 0, 0⟩)
      ∧ ∀ bank code row, glyphRow t.glyphs bank code row = 0

/-- R116, R131, R134: in INIT with the output in BYPASS each symbol and packet is repeated, the transmitter follows the frame
and line it stands in, so that the gap after its LE can be named, and nothing else changes. That an FS or an FE also ends the
line it falls in, and an LS begins it anew, is the model's choice (log entries 30 and 32). -/
def Obligations.BypassRepeatsTheInput : Prop :=
  ∀ s : State, s.settled → s.rx.lock = .init → s.tx.mode = .bypass →
    exec .frameStart s = .next { s.quiet with
      linkOut := [.fs], tx := { s.tx with frameOpen := true, lineOpen := false, linePixels := false } }
    ∧ (∀ n, exec (.lineStart n) s = .next { s.quiet with
      linkOut := [.ls n], tx := { s.tx with lineOpen := true, linePixels := false } })
    ∧ (∀ c, exec (.pixel c) s = .next { s.quiet with linkOut := [.px c], tx := { s.tx with linePixels := true } })
    ∧ exec .lineEnd s = .next { s.quiet with
      linkOut := [.le], tx := { s.tx with lineOpen := false, linePixels := false } }
    ∧ exec .frameEnd s = .next { s.quiet with
      linkOut := [.fe], tx := { s.tx with frameOpen := false, lineOpen := false, linePixels := false } }
    ∧ ∀ run, exec (.packetReceived run) s = .next { s.quiet with linkOut := [.pk run] }

/-! ### Acquisition -/

/-- R117, R113, R121: an FS in SEARCH begins ACQUIRE and its first measured frame; in ACQUIRE the tracker follows each line
and drops a frame that departs from the frame form. The input passes. An FS in ACQUIRE begins a measured frame and restarts
the watchdog; it drops the candidate where a frame was being measured and else keeps it; any other symbol in the gap after a
measured frame drops the candidate, and before the first FS changes nothing. R123, R124: the background acquisition of
HOLDOVER takes each symbol as ACQUIRE does, with nothing output, the watchdog restarted at each FS, and symbols after its
success ignored. -/
def Obligations.AcquireMeasuresTheFrames : Prop :=
  (∀ s : State, s.settled → s.rx.lock = .search → s.tx.mode = .pass → ∃ t,
    exec .frameStart s = .next t
    ∧ t.rx = { s.rx with
        lock := .acquire, tracker := ⟨.measuring ⟨0, none, 0, 0, 0, false⟩, none⟩
        watchdog := some s.settings.watchdog, gapPackets := 0 }
    ∧ t.scene = s.scene ∧ t.sessions = s.sessions ∧ t.comp = s.comp ∧ t.tx.mode = .pass
    ∧ t.linkOut.getLast? = some .fs)
  ∧ (∀ (s : State) (m : Measure) (candidate : Option Geometry), s.settled → s.rx.lock = .acquire → s.tx.mode = .pass →
      s.rx.tracker = ⟨.measuring m, candidate⟩ →
    let passes (c : Instr) (sym : Symbol) (tracker : Tracker) : Prop :=
      ∃ t, exec c s = .next t ∧ t.rx = { s.rx with tracker := tracker, gapPackets := 0 } ∧ t.scene = s.scene
        ∧ t.sessions = s.sessions ∧ t.comp = s.comp ∧ t.tx.mode = .pass ∧ t.linkOut.getLast? = some sym
    (∀ n, m.line = none → n = m.next →
      passes (.lineStart n) (.ls n) ⟨.measuring { m with next := n + 1, line := some ⟨n, 0⟩ }, candidate⟩)
    ∧ (∀ n, (m.line ≠ none ∨ n ≠ m.next) → passes (.lineStart n) (.ls n) ⟨.waiting, none⟩)
    ∧ (∀ c n k, m.line = some ⟨n, k⟩ →
      passes (.pixel c) (.px c) ⟨.measuring { m with line := some ⟨n, k + 1⟩ }, candidate⟩)
    ∧ (∀ c, m.line = none → passes (.pixel c) (.px c) ⟨.waiting, none⟩)
    ∧ (∀ n, m.line = some ⟨n, 0⟩ →
      passes .lineEnd .le ⟨.measuring { m with line := none, ended := m.h ≠ 0 }, candidate⟩)
    ∧ (∀ n k, m.line = some ⟨n, k + 1⟩ → m.h = 0 →
      passes .lineEnd .le ⟨.measuring { m with line := none, w := k + 1, l0 := n, h := 1 }, candidate⟩)
    ∧ (∀ n k, m.line = some ⟨n, k + 1⟩ → m.h ≠ 0 → m.ended = false → m.w = k + 1 →
      passes .lineEnd .le ⟨.measuring { m with line := none, h := m.h + 1 }, candidate⟩)
    ∧ (∀ n k, m.line = some ⟨n, k + 1⟩ → m.h ≠ 0 → (m.ended = true ∨ m.w ≠ k + 1) →
      passes .lineEnd .le ⟨.waiting, none⟩)
    ∧ (m.line = none → passes .lineEnd .le ⟨.waiting, none⟩))
  ∧ (∀ (s : State) (c : Instr) (sym : Symbol), symbolOf c = some sym → s.settled → s.rx.lock = .acquire →
      s.tx.mode = .pass →
    let passes (tracker : Tracker) (watchdog : Option Nat) : Prop :=
      ∃ t, exec c s = .next t ∧ t.rx = { s.rx with tracker := tracker, watchdog := watchdog, gapPackets := 0 }
        ∧ t.scene = s.scene ∧ t.sessions = s.sessions ∧ t.comp = s.comp ∧ t.tx.mode = .pass ∧ t.linkOut.getLast? = some sym
    (sym = .fs → (∃ m candidate, s.rx.tracker = ⟨.measuring m, candidate⟩) →
      passes ⟨.measuring ⟨0, none, 0, 0, 0, false⟩, none⟩ (some s.settings.watchdog))
    ∧ (sym = .fs → s.rx.tracker.phase = .gapAfter ∨ s.rx.tracker.phase = .waiting →
      passes ⟨.measuring ⟨0, none, 0, 0, 0, false⟩, s.rx.tracker.candidate⟩ (some s.settings.watchdog))
    ∧ (sym ≠ .fs → s.rx.tracker.phase = .gapAfter → passes ⟨.waiting, none⟩ s.rx.watchdog)
    ∧ (sym ≠ .fs → s.rx.tracker.phase = .waiting → passes s.rx.tracker s.rx.watchdog))
  ∧ ∀ (s : State) (c : Instr) (sym : Symbol), symbolOf c = some sym → s.settled → s.rx.lock = .holdover →
      s.tx.mode = .generate →
    let takes (tracker : Tracker) : Prop := exec c s = .next { s.quiet with
      rx := { s.rx with
        tracker := tracker, gapPackets := 0
        watchdog := if sym = .fs then some s.settings.watchdog else s.rx.watchdog } }
    (∀ a u : State, s.rx.acquired = none → a.settled → a.rx.lock = .acquire → a.tx.mode = .pass →
      a.rx.tracker = s.rx.tracker → exec c a = .next u → u.rx.lock = .acquire → takes u.rx.tracker)
    ∧ (s.rx.acquired ≠ none → takes s.rx.tracker)

/-- R117, R118, R113: at the FE of a well-formed frame the candidate is taken, or, where it equals the frame's geometry, the
receiver enters LOCKED with it and the output composes; an FE of an ill-formed frame drops the candidate. Where the gap in
hand takes no entries, the CONTROL session is offered its LOCK_CHANGED notice (R128, R159, and R161 with log entry 35). R123,
R124: the second matching FE of the background acquisition of HOLDOVER sets the acquired geometry, and nothing is output. -/
def Obligations.SecondMatchingFrameLocks : Prop :=
  (∀ (s : State) (m : Measure) (candidate : Option Geometry), s.settled → s.rx.lock = .acquire → s.tx.mode = .pass →
    s.rx.tracker = ⟨.measuring m, candidate⟩ →
    let g : Geometry := ⟨m.w, m.h, m.l0, m.next⟩
    let limits : Prop := 64 ≤ g.w ∧ g.w ≤ 4096 ∧ 32 ≤ g.h ∧ g.h ≤ 2304 ∧ g.h + 2 ≤ g.t ∧ g.t ≤ 4096
    (m.line = none → limits → candidate = some g → ∃ t, exec .frameEnd s = .next t
      ∧ t.rx.lock = .locked ∧ t.rx.geometry = some g ∧ t.rx.tracker = ⟨.waiting, none⟩ ∧ t.rx.run = false
      ∧ t.rx.watchdog = s.rx.watchdog ∧ t.rx.damagedFrames = s.rx.damagedFrames
      ∧ t.tx.mode = .compose ∧ t.scene = s.scene ∧ t.comp = s.comp ∧ t.linkOut.getLast? = some .fe
      ∧ ((∀ p, s.tx.gap = some p → p.kind ≠ .blanking) →
          (∀ c, s.control c → noticeOffered s t c
            ([0x03, 3] ++ bytes16 g.w ++ bytes16 g.h ++ bytes16 g.l0 ++ bytes16 g.t))
          ∧ (s.noControl → t.replyQueue = s.replyQueue ∧ t.sessions = s.sessions)))
    ∧ (m.line = none → limits → candidate ≠ some g → ∃ t, exec .frameEnd s = .next t
      ∧ t.rx = { s.rx with tracker := ⟨.gapAfter, some g⟩, gapPackets := 0 }
      ∧ t.tx.mode = .pass ∧ t.scene = s.scene ∧ t.sessions = s.sessions ∧ t.linkOut.getLast? = some .fe)
    ∧ (m.line ≠ none ∨ ¬ limits → ∃ t, exec .frameEnd s = .next t
      ∧ t.rx = { s.rx with tracker := ⟨.waiting, none⟩, gapPackets := 0 }
      ∧ t.tx.mode = .pass ∧ t.scene = s.scene ∧ t.sessions = s.sessions ∧ t.linkOut.getLast? = some .fe))
  ∧ ∀ (s : State) (m : Measure), s.settled → s.rx.lock = .holdover → s.tx.mode = .generate → s.rx.acquired = none →
    let g : Geometry := ⟨m.w, m.h, m.l0, m.next⟩
    s.rx.tracker = ⟨.measuring m, some g⟩ → m.line = none →
    64 ≤ g.w ∧ g.w ≤ 4096 ∧ 32 ≤ g.h ∧ g.h ≤ 2304 ∧ g.h + 2 ≤ g.t ∧ g.t ≤ 4096 →
    exec .frameEnd s = .next { s.quiet with
      rx := { s.rx with tracker := ⟨.waiting, none⟩, acquired := some g, gapPackets := 0 } }

/-! ### Frames in LOCKED -/

/-- R118, R119, R4, R94, R95, R155, R121, R124, R141: an FS in LOCKED that is no framing error is a composited frame start.
The frame counter, the idle counts and the blink counter advance by one, the Row Caches empty, drawing begins in the locked
geometry, and the watchdog restarts; a clean frame before it sets the run to 0, and AWAIT ends. Until that FS, AWAIT outputs
no input symbol and judges none. -/
def Obligations.LockedFrameStartIsComposited : Prop :=
  (∀ (s : State) (g : Geometry), s.settled → s.rx.lock = .locked → s.rx.geometry = some g →
    (s.tx.mode = .compose ∨ s.tx.mode = .await) →
    (s.rx.frame.judged = false ∨ s.rx.frame.damaged = true ∨ s.rx.frame.pos = .afterFE) →
    ∃ t, exec .frameStart s = .next t
      ∧ t.scene.frameCounter = s.scene.frameCounter + 1
      ∧ (∀ e : Fin 4, (s.session e).isOpen = true → (s.session e).idle + 1 ≠ (s.session e).limit →
          (t.session e).isOpen = true ∧ (t.session e).idle = (s.session e).idle + 1)
      ∧ t.rx = { s.rx with
          watchdog := some s.settings.watchdog, gapPackets := 0, frame := ⟨true, .inFrame 0 none, false⟩
          run := if s.rx.frame.judged = true ∧ s.rx.frame.damaged = false then false else s.rx.run }
      ∧ t.comp.frame = .drawing ∧ t.comp.geometry = some g
      ∧ (∀ k : Fin 8, t.comp.caches[k] = [] ∧ t.comp.rows[k] = none)
      ∧ t.comp.blinkCounter = s.comp.blinkCounter + 1 ∧ t.comp.blinkOn = s.comp.blinkOn
      ∧ t.cells = s.cells ∧ t.glyphs = s.glyphs ∧ t.settings = s.settings
      ∧ t.tx.mode = .compose ∧ t.linkOut.getLast? = some .fs)
  ∧ ∀ (s : State) (c : Instr) (sym : Symbol), symbolOf c = some sym → sym ≠ .fs → s.settled → s.rx.lock = .locked →
      s.tx.mode = .await → s.rx.frame.judged = false → ∃ t, exec c s = .next t
      ∧ t.linkOut = [] ∧ t.tx = s.tx ∧ t.rx = { s.rx with frame := t.rx.frame, gapPackets := 0 }
      ∧ t.rx.frame.judged = false ∧ t.rx.frame.damaged = s.rx.frame.damaged
      ∧ t.scene = s.scene ∧ t.sessions = s.sessions ∧ t.engine = s.engine ∧ t.commandQueue = s.commandQueue
      ∧ t.replyQueue = s.replyQueue ∧ t.cells = s.cells ∧ t.glyphs = s.glyphs
      ∧ (s.comp.frame = .idle → s.comp.owed = [] → t.comp = s.comp)

/-- R119, R99, R100, R101: the expected LS in a clean locked frame is taken and passed. On an active line of a frame being
drawn, exactly the windows of the live Order that begin a row there owe a fetch of it, and no scene or session changes. -/
def Obligations.LockedLineStartOwesItsFetches : Prop :=
  ∀ (s : State) (g : Geometry) (n : Nat), s.composing g → s.rx.frame = ⟨true, .inFrame n none, false⟩ → n < g.t →
    ∃ t, exec (.lineStart n) s = .next t
      ∧ t.rx = { s.rx with frame := ⟨true, .inFrame (n + 1) (some ⟨n, 0⟩), false⟩, gapPackets := 0 }
      ∧ t.scene = s.scene ∧ t.sessions = s.sessions ∧ t.cells = s.cells ∧ t.linkOut.getLast? = some (.ls n)
      ∧ (s.comp.frame ≠ .drawing ∨ n < g.l0 ∨ g.l0 + g.h ≤ n → s.comp.geometry = some g → t.comp = s.comp)
      ∧ (s.comp.frame = .drawing → s.comp.geometry = some g → g.l0 ≤ n → n < g.l0 + g.h →
          t.comp = { s.comp with owed := t.comp.owed, reads := Vector.replicate 8 none }
          ∧ ∀ (k : Fin 8) (f : RowState), (k, f) ∈ t.comp.owed ↔
              k ∈ s.scene.live.order ∧ ∃ r, s.scene.live.windows[k] = some r ∧ fetchDue r (n - g.l0) f)

/-- R98, R101: the fetch a line owes is taken before its first pixel: the window's Row Cache becomes the cells of the row as
they stand, each with its index, and its row state names the row. -/
def Obligations.RowFetchCopiesTheRow : Prop :=
  ∀ (s : State) (g : Geometry) (x y : Nat) (c : RGB) (k : Fin 8) (f : RowState) (r : WindowRecord),
    s.drawing g x y → s.comp.owed = [(k, f)] → s.scene.live.windows[k] = some r →
    ∃ t, exec (.pixel c) s = .next t
      ∧ t.comp.owed = [] ∧ t.comp.rows = s.comp.rows.set k (some f)
      ∧ (∀ a : Fin 8, a ≠ k → t.comp.caches[a] = s.comp.caches[a])
      ∧ (t.comp.caches[k]).length = r.columns
      ∧ (∀ i, i < r.columns → (t.comp.caches[k])[i]? = some ⟨cellAt s.cells (f.first + i), (f.first + i) % 16384⟩)
      ∧ t.cells = s.cells ∧ t.glyphs = s.glyphs ∧ t.scene = s.scene ∧ t.sessions = s.sessions

/-- R109, R92, R133: a pixel that no window of the live Order covers, and every pixel of a locked active line while the
Compositor is not DRAWING, is output as it came; the position in the line advances by one. R110, R119, R133: so is every
remaining pixel of a damaged frame, wherever it stands, and it is not checked. R108, R81, R82, R83: a pixel in
the border ring of the one window of the live Order is blended with the output entry of the border's masked colour index
where the key passes, and no glyph row is read. -/
def Obligations.UncoveredAndBorderPixels : Prop :=
  (∀ (s : State) (g : Geometry) (c : RGB) (n x next : Nat) (damaged : Bool), s.composing g →
      s.rx.frame = ⟨true, .inFrame next (some ⟨n, x⟩), damaged⟩ → g.l0 ≤ n → n < g.l0 + g.h → x < g.w →
      s.comp.geometry = some g →
      (s.comp.frame ≠ .drawing
        ∨ ∀ k ∈ s.scene.live.order, ∀ r, s.scene.live.windows[k] = some r → ¬ covers r x (n - g.l0)) →
      ∃ t, exec (.pixel c) s = .next t
        ∧ t.linkOut.getLast? = some (.px c)
        ∧ t.rx = { s.rx with frame := ⟨true, .inFrame next (some ⟨n, x + 1⟩), damaged⟩, gapPackets := 0 }
        ∧ t.scene = s.scene ∧ t.sessions = s.sessions ∧ t.cells = s.cells ∧ t.glyphs = s.glyphs
        ∧ t.comp.frame = s.comp.frame ∧ t.tx.mode = .compose)
  ∧ (∀ (s : State) (g : Geometry) (c : RGB) (pos : FramePos), s.composing g → s.rx.frame = ⟨true, pos, true⟩ →
      s.comp.frame ≠ .drawing →
      let moved : FramePos := match pos with
        | .inFrame next (some l) => .inFrame next (some ⟨l.number, l.pixels + 1⟩)
        | other => other
      ∃ t, exec (.pixel c) s = .next t
        ∧ t.linkOut.getLast? = some (.px c)
        ∧ t.rx = { s.rx with frame := ⟨true, moved, true⟩, gapPackets := 0 }
        ∧ t.scene = s.scene ∧ t.sessions = s.sessions ∧ t.cells = s.cells ∧ t.glyphs = s.glyphs
        ∧ t.comp = s.comp ∧ t.tx.mode = .compose)
  ∧ (∀ (s : State) (g : Geometry) (x y : Nat) (c : RGB) (k : Fin 8) (r : WindowRecord) (b : Border),
      s.drawing g x y → s.comp.owed = [] → s.scene.live.order = [k] → s.scene.live.windows[k] = some r →
      r.border = some b → covers r x y → ¬ inContent r x y →
      ∃ t, exec (.pixel c) s = .next t
        ∧ (passesKey r c → t.linkOut.getLast? = some (.px
            (blendedWith (s.scene.live.colours[(b.colour &&& s.scene.live.indexMask).toFin])
              (s.scene.live.colours[(b.colour &&& s.scene.live.indexMask).toFin]).coverage c)))
        ∧ (¬ passesKey r c → t.linkOut.getLast? = some (.px c))
        ∧ t.comp = s.comp)

/-- R103, R74, R75, R104 to R107, R80, R82, R83, R109: a pixel in the content of the one window of the live Order. The cell is
the Row Cache entry of its column, the dot comes from the glyph row of its bank, code and scan line, read once for the cell on
this line and held for its later pixels, forced by underline, cursor and blink in that order, and its colour goes through palette, index mask and output table into one blend step, or
none where the key does not pass. -/
def Obligations.ContentPixelIsBlended : Prop :=
  ∀ (s : State) (g : Geometry) (x y : Nat) (c : RGB) (k : Fin 8) (r : WindowRecord) (cell : CacheEntry),
    s.drawing g x y → s.comp.owed = [] → s.scene.live.order = [k] → s.scene.live.windows[k] = some r →
    inContent r x y → (s.comp.caches[k])[(x - r.x) / r.cellWidth]? = some cell →
    ∃ t, exec (.pixel c) s = .next t ∧
      let bank := if r.dualBank = true ∧ cell.cell.flags.getLsbD 2 = true then r.bankB else r.bankA
      let now := glyphRow s.glyphs bank cell.cell.code.toNat (scanLine r y)
      let dots := match s.comp.reads[k] with
        | some held => if held.column = (x - r.x) / r.cellWidth then held.dots else now
        | none => now
      let glyph := dots.getLsbD (15 - (x - r.x) % r.cellWidth)
      let underline : Prop := scanLine r y = r.underlineLine ∧ cell.cell.flags.getLsbD 1 = true
      let cursor : Prop := ∃ u, r.cursor = some u ∧ cell.index = u.cell ∧ u.startLine ≤ scanLine r y
        ∧ scanLine r y ≤ u.endLine ∧ (u.blink = false ∨ s.comp.blinkOn = true)
      let blinks : Prop := r.blinkEnable = true ∧ cell.cell.flags.getLsbD 0 = true ∧ s.comp.blinkOn = false
      ∃ dot : Bool,
        (dot = true ↔ underline ∨ cursor ∨ (¬ blinks ∧ glyph = true))
        ∧ (let index := (s.scene.live.palettes[r.palette])[(if dot then cell.cell.fg else cell.cell.bg).toFin]
           let entry := s.scene.live.colours[(index &&& s.scene.live.indexMask).toFin]
           let coverage := if dot = false ∧ cell.cell.flags.getLsbD 3 = true then 0 else entry.coverage
           (passesKey r c → t.linkOut.getLast? = some (.px (blendedWith entry coverage c)))
           ∧ (¬ passesKey r c → t.linkOut.getLast? = some (.px c)))
        ∧ t.comp.reads[k] = some ⟨(x - r.x) / r.cellWidth, dots⟩

/-- R109: the windows are taken from the last entry of the live Order to the first: the front window is blended over the
result of those behind it, and each key is tested against the original pixel. A window whose footprint does not hold the point
leaves the picture as it is. R103 to R108, R74, R75, R80, R82, R83: in its border and in its content the step is one blend over
what stands behind, and in its content the glyph row read for the cell is held whether or not the key passes. R101: an input pixel of a frame being drawn is
output as that mix of all the windows, made after the row fetches its line owes. -/
def Obligations.WindowsMixBackToFront : Prop :=
  (∀ (s : State) (x y : Nat) (original : RGB) (k : Fin 8) (rest : List (Fin 8)), s.scene.live.order = k :: rest →
    let behind := { s with scene := { s.scene with live := { s.scene.live with order := rest } } }
    mixPixel s x y original = mixWindow s x y original k (mixPixel behind x y original)
    ∧ ∀ (r : WindowRecord) (b : Border) (m : Mixing), s.scene.live.windows[k] = some r → r.border = some b →
        covers r x y → ¬ inContent r x y →
        let entry := s.scene.live.colours[(b.colour &&& s.scene.live.indexMask).toFin]
        (passesKey r original → mixWindow s x y original k m = { m with result := blendedWith entry entry.coverage m.result })
        ∧ (¬ passesKey r original → mixWindow s x y original k m = m))
  ∧ (∀ (s : State) (x y : Nat) (original : RGB) (k : Fin 8) (r : WindowRecord) (m : Mixing),
      s.scene.live.windows[k] = some r → ¬ covers r x y → mixWindow s x y original k m = m)
  ∧ (∀ (s : State) (x y : Nat) (original : RGB) (k : Fin 8) (r : WindowRecord) (cell : CacheEntry) (m : Mixing),
      s.scene.live.windows[k] = some r → inContent r x y →
      (s.comp.caches[k])[(x - r.x) / r.cellWidth]? = some cell →
      let bank := if r.dualBank = true ∧ cell.cell.flags.getLsbD 2 = true then r.bankB else r.bankA
      let now := glyphRow s.glyphs bank cell.cell.code.toNat (scanLine r y)
      let dots := match m.reads[k] with
        | some held => if held.column = (x - r.x) / r.cellWidth then held.dots else now
        | none => now
      let glyph := dots.getLsbD (15 - (x - r.x) % r.cellWidth)
      let underline : Prop := scanLine r y = r.underlineLine ∧ cell.cell.flags.getLsbD 1 = true
      let cursor : Prop := ∃ u, r.cursor = some u ∧ cell.index = u.cell ∧ u.startLine ≤ scanLine r y
        ∧ scanLine r y ≤ u.endLine ∧ (u.blink = false ∨ s.comp.blinkOn = true)
      let blinks : Prop := r.blinkEnable = true ∧ cell.cell.flags.getLsbD 0 = true ∧ s.comp.blinkOn = false
      ∃ dot : Bool,
        (dot = true ↔ underline ∨ cursor ∨ (¬ blinks ∧ glyph = true))
        ∧ let index := (s.scene.live.palettes[r.palette])[(if dot then cell.cell.fg else cell.cell.bg).toFin]
          let entry := s.scene.live.colours[(index &&& s.scene.live.indexMask).toFin]
          let coverage := if dot = false ∧ cell.cell.flags.getLsbD 3 = true then 0 else entry.coverage
          let reads := m.reads.set k (some ⟨(x - r.x) / r.cellWidth, dots⟩)
          (passesKey r original → mixWindow s x y original k m = ⟨blendedWith entry coverage m.result, reads⟩)
          ∧ (¬ passesKey r original → mixWindow s x y original k m = ⟨m.result, reads⟩))
  ∧ ∀ (s : State) (g : Geometry) (x y : Nat) (c : RGB), s.drawing g x y →
      let mixed := mixPixel (fetchAll s) x y c
      ∃ t, exec (.pixel c) s = .next t
        ∧ t.linkOut.getLast? = some (.px mixed.result) ∧ t.comp = { (fetchAll s).comp with reads := mixed.reads }
        ∧ t.scene = s.scene ∧ t.sessions = s.sessions ∧ t.cells = s.cells ∧ t.glyphs = s.glyphs

/-- R119, R93, R134: the LE of a blanking line, or of an active line of full width, and the FE after the last line, in a clean
locked frame: the frame stays clean, the drawing ends at the FE, and the output stands in the gap its symbol opens. -/
def Obligations.LockedLineAndFrameEnds : Prop :=
  ∀ (s : State) (g : Geometry) (next : Nat), s.composing g →
    (∀ n k, s.rx.frame = ⟨true, .inFrame next (some ⟨n, k⟩), false⟩ →
      (g.l0 ≤ n ∧ n < g.l0 + g.h ∧ k = g.w ∨ n < g.l0 ∨ g.l0 + g.h ≤ n) → ∃ t, exec .lineEnd s = .next t
        ∧ t.rx = { s.rx with frame := ⟨true, .inFrame next none, false⟩, gapPackets := 0 }
        ∧ t.comp = s.comp ∧ t.scene = s.scene ∧ t.sessions = s.sessions ∧ t.linkOut.getLast? = some .le
        ∧ (s.tx.lineOpen = true →
            t.tx.gap = some ⟨if s.tx.linePixels then .activeLine else .blanking, []⟩ ∧ t.tx.lineOpen = false))
    ∧ (s.rx.frame = ⟨true, .inFrame next none, false⟩ → next = g.t → ∃ t, exec .frameEnd s = .next t
        ∧ t.rx = { s.rx with frame := ⟨true, .afterFE, false⟩, gapPackets := 0 }
        ∧ t.comp.frame = .idle ∧ t.scene = s.scene ∧ t.sessions = s.sessions ∧ t.linkOut.getLast? = some .fe
        ∧ t.tx.gap = some ⟨.blanking, []⟩ ∧ t.tx.frameOpen = false)

/-- R119, R120, R93, R110, R127: the first framing error of a clean locked frame damages it, is counted, and stops the
drawing. With the run at 0 the receiver stays LOCKED with the run at 1; an early FS then begins a new composited frame. R120,
R110, R127, R130: with the run at 1, the first framing error moves the receiver to ACQUIRE and the output to PASS with the
drawing ended. An early FS is not composited and begins the first measured frame. R128: where the gap in hand takes no
entries, the CONTROL session is offered its LOCK_CHANGED notice (R159, and R161 with log entry 35). That an LE in a gap is a
framing error, for which Table 34 has no row, is the model's choice (log entry 31), and so is that the pixel that is itself
the error is output unchanged (log entry 21). -/
def Obligations.DamagedFramesStopAndUnlock : Prop :=
  (∀ (s : State) (g : Geometry) (pos : FramePos), s.composing g → s.rx.frame = ⟨true, pos, false⟩ → s.rx.run = false →
      (∀ c, departs g pos c → ∃ t, exec c s = .next t
        ∧ t.rx.lock = .locked ∧ t.rx.run = true ∧ t.rx.frame.damaged = true ∧ t.rx.frame.judged = true
        ∧ t.rx.damagedFrames = (if s.rx.damagedFrames = 0xFFFF then 0xFFFF else s.rx.damagedFrames + 1)
        ∧ t.rx.geometry = some g ∧ t.rx.watchdog = s.rx.watchdog ∧ t.tx.mode = .compose
        ∧ t.comp.frame ≠ .drawing ∧ (c ≠ .frameEnd → s.comp.frame = .drawing → t.comp.frame = .stopped)
        ∧ (∀ p, c = .pixel p → t.linkOut.getLast? = some (.px p))
        ∧ t.scene = s.scene ∧ t.sessions = s.sessions)
      ∧ (pos ≠ .afterFE → ∃ t, exec .frameStart s = .next t
        ∧ t.rx.lock = .locked ∧ t.rx.run = true ∧ t.rx.frame = ⟨true, .inFrame 0 none, false⟩
        ∧ t.rx.damagedFrames = (if s.rx.damagedFrames = 0xFFFF then 0xFFFF else s.rx.damagedFrames + 1)
        ∧ t.scene.frameCounter = s.scene.frameCounter + 1 ∧ t.comp.frame = .drawing
        ∧ t.rx.watchdog = some s.settings.watchdog ∧ t.tx.mode = .compose))
  ∧ (∀ (s : State) (g : Geometry) (pos : FramePos), s.composing g → s.rx.frame = ⟨true, pos, false⟩ → s.rx.run = true →
      let told (t : State) : Prop := (∀ p, s.tx.gap = some p → p.kind ≠ .blanking) →
        (∀ a, s.control a → noticeOffered s t a ([0x03, 2] ++ List.replicate 8 0))
        ∧ (s.noControl → t.replyQueue = s.replyQueue ∧ t.sessions = s.sessions)
      (∀ c, departs g pos c → ∃ t, exec c s = .next t
        ∧ t.rx.lock = .acquire ∧ t.rx.run = false ∧ t.rx.tracker = ⟨.waiting, none⟩
        ∧ t.rx.damagedFrames = (if s.rx.damagedFrames = 0xFFFF then 0xFFFF else s.rx.damagedFrames + 1)
        ∧ t.rx.geometry = some g ∧ t.rx.watchdog = s.rx.watchdog ∧ t.tx.mode = .pass ∧ t.comp.frame = .idle
        ∧ (∀ p, c = .pixel p → t.linkOut.getLast? = some (.px p)) ∧ t.scene = s.scene ∧ told t)
      ∧ (pos ≠ .afterFE → ∃ t, exec .frameStart s = .next t
        ∧ t.rx.lock = .acquire ∧ t.rx.run = false ∧ t.rx.tracker = ⟨.measuring ⟨0, none, 0, 0, 0, false⟩, none⟩
        ∧ t.rx.damagedFrames = (if s.rx.damagedFrames = 0xFFFF then 0xFFFF else s.rx.damagedFrames + 1)
        ∧ t.rx.watchdog = some s.settings.watchdog ∧ t.tx.mode = .pass ∧ t.comp.frame = .idle
        ∧ t.scene = s.scene ∧ told t))

/-! ### Output gaps and packets -/

/-- R135, R134, R136, R161: at the close of a blanking gap the oldest entries of the Reply Queue leave as packets, up to three
less the forwarded packets of the gap, and let a WAITING engine test again; no other gap, and no place outside a gap, takes
any. R132, R133, R139: so before every symbol that PASS and COMPOSE output and before every symbol of the generator. R137:
a notice the symbol itself brings about may leave in the gap behind the entries that stood there, where they leave it room, and
else stays behind them. That an LS inside an open line begins the line anew, with no pixel, is the model's choice (log entry
30). -/
def Obligations.BlankingGapTakesReplies : Prop :=
  (∀ (s : State) (n : Nat), s.settled → s.rx.lock = .search → s.tx.mode = .pass →
    (∀ forwarded, s.tx.gap = some ⟨.blanking, forwarded⟩ → ∃ t, exec (.lineStart n) s = .next t
      ∧ t.linkOut = s.packetsOf (3 - forwarded.length) ++ [.ls n]
      ∧ t.replyQueue = s.replyQueue.drop (3 - forwarded.length) ∧ t.tx.gap = none
      ∧ (s.replyQueue ≠ [] → forwarded.length < 3 → s.engine = .waiting → t.engine = .testing)
      ∧ (s.replyQueue = [] ∨ 3 ≤ forwarded.length ∨ s.engine ≠ .waiting → t.engine = s.engine)
      ∧ t.scene = s.scene ∧ t.sessions = s.sessions ∧ t.commandQueue = s.commandQueue ∧ t.comp = s.comp
      ∧ t.rx = { s.rx with gapPackets := 0 })
    ∧ ((∀ g, s.tx.gap = some g → g.kind ≠ .blanking) → exec (.lineStart n) s = .next { s.quiet with
        linkOut := [.ls n], rx := { s.rx with gapPackets := 0 }
        tx := { s.tx with gap := none, lineOpen := true, linePixels := false } }))
  ∧ (∀ (s : State) (c : Instr) (sym : Symbol), symbolOf c = some sym → s.settled →
      (s.tx.mode = .pass ∨ s.tx.mode = .compose) → ∃ t out, exec c s = .next t
      ∧ (s.rx.lock ≠ .locked ∨ s.comp.frame ≠ .drawing ∨ (∀ p, sym ≠ .px p) → out = sym)
      ∧ (∀ p, sym = .px p → ∃ q, out = .px q)
      ∧ closesBefore s t out (s.untold sym))
  ∧ ∀ (s : State) (g : Geometry) (pos : GenPos) (period : Nat), s.settled → s.tx.generator = .running g pos period →
      (pos ≠ .start → pos ≠ .ended → ∃ t out, exec .generatedSymbol s = .next t ∧ closesBefore s t out True)
      ∧ (pos = .start ∨ (pos = .ended ∧ s.rx.acquired = none) → ∃ t, exec .generatedFrameStart s = .next t
        ∧ closesBefore s t .fs s.startsUntold)

/-- R173, Table 48: a run is overrunning exactly when it is longer than 247 bytes or declares more than 240, good exactly when
it is a whole packet with its check word, and otherwise bad; the nine bytes 0x31 to 0x39 give 0x29B1. R136, Table 38: the bytes an
entry of the Reply Queue is sent as are such a run, of the fields it is built from. -/
def Obligations.RunsAreJudgedByTheirBytes : Prop :=
  (∀ run : List Byte, judgeRun run = .overrun ↔ 247 < run.length ∨ ∃ n, run[4]? = some n ∧ 240 < n.toNat)
  ∧ (∀ (run : List Byte) (kind dest source seq : Byte) (payload : List Byte),
      judgeRun run = .good kind dest source seq payload ↔
        payload.length ≤ 240
        ∧ run = [kind, dest, source, seq, byte payload.length] ++ payload
            ++ bytes16 (checkWord ([kind, dest, source, seq, byte payload.length] ++ payload)).toNat)
  ∧ checkWord [] = 0xFFFF
  ∧ (∀ (bytes : List Byte) (x : Byte), checkWord (bytes ++ [x]) =
      [7, 6, 5, 4, 3, 2, 1, 0].foldl (fun (reg : Word) i =>
        if reg.getLsbD 15 = x.getLsbD i then reg <<< 1 else (reg <<< 1) ^^^ 0x1021) (checkWord bytes))
  ∧ checkWord [0x31, 0x32, 0x33, 0x34, 0x35, 0x36, 0x37, 0x38, 0x39] = 0x29B1
  ∧ ∀ (kind dest source seq : Byte) (payload : List Byte), payload.length ≤ 240 →
      judgeRun (packetBytes kind dest source seq payload) = .good kind dest source seq payload

/-- R125, R127, R115: a bad packet is discarded and counted. The fourth packet of a gap and an overrunning one are discarded
uncounted: a framing error of a clean frame in LOCKED, an ill-formed frame while one is measured, nothing elsewhere. That a
bad or an overrunning packet is one of the three of its gap is the model's reading (log entry 20). -/
def Obligations.BadAndExcessPacketsAreDiscarded : Prop :=
  ∀ (s : State) (run : List Byte), s.settled → s.rx.lock ≠ .init →
    (s.rx.gapPackets < 3 → judgeRun run = .bad → exec (.packetReceived run) s = .next { s.counted with
      rx := { s.counted.rx with
        checkFailures := if s.rx.checkFailures = 0xFFFF then 0xFFFF else s.rx.checkFailures + 1 } })
    ∧ (3 ≤ s.rx.gapPackets ∨ judgeRun run = .overrun →
      let u := if 3 ≤ s.rx.gapPackets then s.quiet else s.counted
      (s.rx.lock = .search ∨ (s.rx.lock = .locked ∧ (s.rx.frame.judged = false ∨ s.rx.frame.damaged = true))
          ∨ (s.rx.lock = .holdover ∧ s.rx.acquired ≠ none) → exec (.packetReceived run) s = .next u)
      ∧ (s.rx.lock = .acquire ∨ (s.rx.lock = .holdover ∧ s.rx.acquired = none) →
          exec (.packetReceived run) s = .next { u with
            rx := { u.rx with tracker := if s.rx.tracker.phase = .waiting then s.rx.tracker else ⟨.waiting, none⟩ } })
      ∧ (s.rx.lock = .locked → s.rx.frame.judged = true → s.rx.frame.damaged = false → ∃ t,
          exec (.packetReceived run) s = .next t
          ∧ t.rx.damagedFrames = (if s.rx.damagedFrames = 0xFFFF then 0xFFFF else s.rx.damagedFrames + 1)
          ∧ t.rx.frame = { s.rx.frame with damaged := true } ∧ t.rx.checkFailures = s.rx.checkFailures
          ∧ t.scene = s.scene ∧ t.commandQueue = s.commandQueue ∧ t.linkOut = []
          ∧ (s.rx.run = false → t.rx.lock = .locked ∧ t.rx.run = true ∧ t.comp.frame ≠ .drawing ∧ t.tx = s.tx
              ∧ t.sessions = s.sessions)
          ∧ (s.rx.run = true → t.rx.lock = .acquire ∧ t.rx.run = false ∧ t.rx.tracker = ⟨.waiting, none⟩
              ∧ t.comp.frame = .idle ∧ t.tx = { s.tx with mode := .pass })))

/-- Table 36, R126, R123, R132, R141: a good packet that is no command for this unit and no broadcast is output byte for byte
in its place in PASS and COMPOSE, and discarded in GENERATE and AWAIT. R146, R126: a broadcast command is forwarded as other
packets are, and joins the Command Queue if it holds fewer than four; it changes no session and is never answered. In AWAIT it is
admitted as R124, R141, R145 and R146 say, against the words of R177 (log entry 33). That a run of packets in PASS after AWAIT
was lost to SEARCH, before any symbol, opens a run of kind "other" and is forwarded whole is the model's choice (log entry
34). -/
def Obligations.PacketsForOthersAndBroadcasts : Prop :=
  (∀ (s : State) (run : List Byte) (kind dest source seq : Byte) (payload : List Byte),
      s.takes run kind dest source seq payload → kind ≠ 0xC1 ∨ (dest ≠ s.unitAddress ∧ dest ≠ 0) →
      (s.tx.mode = .pass ∨ s.tx.mode = .compose → exec (.packetReceived run) s = .next (s.passedOn run))
      ∧ (s.tx.mode = .generate ∨ s.tx.mode = .await → exec (.packetReceived run) s = .next s.counted))
  ∧ (∀ (s : State) (run : List Byte) (source seq : Byte) (payload : List Byte),
      s.takes run 0xC1 0 source seq payload → s.unitAddress ≠ 0 → s.tx.mode ≠ .bypass →
      let u := if s.tx.mode = .pass ∨ s.tx.mode = .compose then s.passedOn run else s.counted
      (s.commandQueue.length < 4 → exec (.packetReceived run) s = .next { u with
        commandQueue := s.commandQueue ++ [⟨none, seq, payload⟩]
        engine := if s.engine = .idle then .testing else s.engine })
      ∧ (4 ≤ s.commandQueue.length → exec (.packetReceived run) s = .next u))

/-! ### Admission -/

/-- R148, R145, R143: a well-formed OPEN with a free Reply Queue entry. The peer's old session ends first; then CONTROL is
refused ROLE_TAKEN while an entry holds it, CLIENT is refused TABLE_FULL at three, and otherwise the lowest CLOSED entry
opens and the OK reply is queued and cached. Without a free entry the packet has no effect. R147, R145: any other payload
with sequence 0 is answered BAD_OPEN; a session of the peer goes on with its idle count at 0. A packet whose source is no
controller address is discarded with no effect. -/
def Obligations.OpenPacketsAreAnswered : Prop :=
  (∀ (s : State) (run : List Byte) (source rb lh ll : Byte) (role : Role),
      s.takesCommand run source 0 [0x01, 3, rb, lh, ll] → (rb = 1 ∧ role = .control ∨ rb = 2 ∧ role = .client) →
      60 ≤ be16 lh ll →
      (¬ s.hasReplyRoom → exec (.packetReceived run) s = .next s.counted)
      ∧ ∀ base : State, s.hasReplyRoom →
        (s.stranger source ∧ base = s.counted ∨ ∃ old, s.holds source old ∧ base = endSession old s.counted) →
        (role = .control → (∃ a : Fin 4, (base.session a).isOpen = true ∧ (base.session a).role = .control) →
          exec (.packetReceived run) s =
            .next { base with replyQueue := base.replyQueue ++ [base.admissionEntry 0x0D 0 0 source 0 []] })
        ∧ (role = .client → 3 ≤ base.clientCount →
          exec (.packetReceived run) s =
            .next { base with replyQueue := base.replyQueue ++ [base.admissionEntry 0x0C 0 0 source 0 []] })
        ∧ ∀ e : Fin 4, (role = .control → base.noControl) → (role = .client → base.clientCount < 3) →
          (base.session e).isOpen = false → (∀ a : Fin 4, a < e → (base.session a).isOpen = true) →
          let reply := base.admissionEntry 0x00 0 1 source 0 [byte e.1]
          exec (.packetReceived run) s = .next
            { base.setSession e ⟨true, source, role, 1, 0, some reply, false, 0, be16 lh ll, false, false⟩ with
              replyQueue := base.replyQueue ++ [reply] })
  ∧ (∀ (s : State) (run : List Byte) (source : Byte) (payload : List Byte),
      (s.takesCommand run source 0 payload →
        (∀ rb lh ll : Byte, payload = [0x01, 3, rb, lh, ll] → (rb = 1 ∨ rb = 2) → be16 lh ll < 60) →
        (¬ s.hasReplyRoom → exec (.packetReceived run) s = .next s.counted)
        ∧ (s.hasReplyRoom → s.stranger source → exec (.packetReceived run) s =
            .next { s.counted with replyQueue := s.replyQueue ++ [s.admissionEntry 0x0F 1 0 source 0 []] })
        ∧ (∀ e, s.hasReplyRoom → s.holds source e → exec (.packetReceived run) s =
            .next { s.counted.setSession e { s.session e with idle := 0 } with
              replyQueue := s.replyQueue ++ [s.admissionEntry 0x0F 1 0 source 0 []] }))
      ∧ ∀ seq, s.takes run 0xC1 s.unitAddress source seq payload →
          (source = 0 ∨ source = 0xFF ∨ (0x80 ≤ source.toNat ∧ source.toNat ≤ 0x8F)) →
          exec (.packetReceived run) s = .next s.counted)

/-- R149 to R153: a packet with sequence 1 to 255. With no session it is answered NO_SESSION. With one, the idle count becomes 0;
the next expected sequence is queued, or sets OVERRUN at a full queue; the last accepted is discarded while in progress and
else answered from the cache; any other is answered OUT_OF_SEQUENCE with the flags, which it clears. -/
def Obligations.SequencedPacketsAreAdmitted : Prop :=
  ∀ (s : State) (run : List Byte) (source seq : Byte) (payload : List Byte),
    s.takesCommand run source seq payload → seq ≠ 0 →
    (s.stranger source →
      (s.hasReplyRoom → exec (.packetReceived run) s =
        .next { s.counted with replyQueue := s.replyQueue ++ [s.admissionEntry 0x0B 0 0 source seq []] })
      ∧ (¬ s.hasReplyRoom → exec (.packetReceived run) s = .next s.counted))
    ∧ ∀ e, s.holds source e →
      let v := { s.session e with idle := 0 }
      let u := s.counted.setSession e v
      (seq = v.nextSeq → s.commandQueue.length < 4 → exec (.packetReceived run) s = .next
        { s.counted.setSession e
            { v with lastSeq := seq, nextSeq := if seq = 255 then 1 else seq + 1, inProgress := true } with
          commandQueue := s.commandQueue ++ [⟨some e, seq, payload⟩]
          engine := if s.engine = .idle then .testing else s.engine })
      ∧ (seq = v.nextSeq → 4 ≤ s.commandQueue.length →
          exec (.packetReceived run) s = .next (s.counted.setSession e { v with overrun := true }))
      ∧ (seq ≠ v.nextSeq → seq = v.lastSeq → v.inProgress = true → exec (.packetReceived run) s = .next u)
      ∧ (∀ o, seq ≠ v.nextSeq → seq = v.lastSeq → v.inProgress = false → v.cache = some o →
          (s.hasReplyRoom → exec (.packetReceived run) s = .next { u with replyQueue := s.replyQueue ++ [o] })
          ∧ (¬ s.hasReplyRoom → exec (.packetReceived run) s = .next u))
      ∧ (seq ≠ v.nextSeq → seq ≠ v.lastSeq →
          (s.hasReplyRoom → exec (.packetReceived run) s = .next
            { s.counted.setSession e { v with overrun := false, noticeLost := false } with
              replyQueue := s.replyQueue ++ [⟨.reply, source, seq, replyBytes 0x0E 0 0 v.overrun v.noticeLost
                s.scene.commit.pending s.scene.epoch s.scene.frameCounter [v.nextSeq]⟩] })
          ∧ (¬ s.hasReplyRoom → exec (.packetReceived run) s = .next u))

/-- R157, R17: the end of a session drops its queued packets, stops its executing packet, closes its entry, frees its staged
windows, lists its live windows for teardown and clears the commit issuer that names it; nothing else changes. R161: the engine
tests a head that the end has changed, and an entry it holds reserved for the head it had is released (log entry 35). -/
def Obligations.SessionEndClosesAndTearsDown : Prop :=
  ∀ (e : Fin 4) (s : State),
    let t := endSession e s
    t = { s with
      sessions := t.sessions, commandQueue := t.commandQueue, engine := t.engine
      scene := { s.scene with
        staged := { s.scene.staged with windows := t.scene.staged.windows, order := t.scene.staged.order }
        teardown := t.scene.teardown
        commit := { s.scene.commit with
          issuer := if s.scene.commit.issuer = some e then none else s.scene.commit.issuer } } }
    ∧ t.session e = closedEntry ∧ (∀ a : Fin 4, a ≠ e → t.session a = s.session a)
    ∧ t.commandQueue = s.commandQueue.filter (fun p => decide (p.session ≠ some e))
    ∧ (∀ x, s.engine = .executing x → x.packet.session ≠ some e → t.engine = s.engine)
    ∧ (∀ x, s.engine = .executing x → x.packet.session = some e →
        t.engine = if t.commandQueue = [] then .idle else .testing)
    ∧ (s.engine = .idle → t.engine = .idle)
    ∧ (s.engine = .testing → t.engine = if t.commandQueue = [] then .idle else .testing)
    ∧ (s.engine = .waiting ∨ s.engine = .reserved → t.engine =
        if t.commandQueue.head? = s.commandQueue.head? then s.engine
        else if t.commandQueue = [] then .idle else .testing)
    ∧ (∀ (k : Fin 8) (r : WindowRecord), t.scene.staged.windows[k] = some r ↔
        s.scene.staged.windows[k] = some r ∧ r.owner ≠ e)
    ∧ t.scene.staged.order = s.scene.staged.order.filter
        (fun k => match s.scene.staged.windows[k] with
          | some r => decide (r.owner ≠ e)
          | none => true)
    ∧ ∀ k : Fin 8, k ∈ t.scene.teardown ↔
        k ∈ s.scene.teardown ∨ ∃ r, s.scene.live.windows[k] = some r ∧ r.owner = e

/-! ### Loss of the input and the generator -/

/-- R121, R128, R130: the watchdog's expiry. ACQUIRE goes to SEARCH, HOLDOVER forgets its background acquisition, and LOCKED
with fallback off goes to SEARCH and reports it; with the watchdog stopped no expiry arises (the model's choice, log entry
3). R121, R138, R128: with fallback on, the expiry in LOCKED moves the receiver to HOLDOVER: the open line and frame of the
output are ended, the gap is closed, and the generator runs with the held geometry and is to begin its first frame. R135: the
gaps closed there take the oldest entries of the Reply Queue, three for each blanking gap less its forwarded packets. R137,
R159: the notice of the change is offered to the CONTROL session before, between or after them, and leaves in one of them only
behind all that stood there; without a free entry it is lost, unless entries have left before it is offered, and R161: so it is
where the engine takes the last free entry first (log entry 35). -/
def Obligations.WatchdogExpiryLosesTheInput : Prop :=
  (∀ s : State, s.settled →
      (s.rx.watchdog = none → exec .watchdogExpiry s = .next s.quiet)
      ∧ (s.rx.watchdog.isSome = true →
        (s.rx.lock = .acquire → exec .watchdogExpiry s = .next { s.quiet with
          rx := { s.rx with watchdog := none, lock := .search, tracker := ⟨.waiting, none⟩ } })
        ∧ (s.rx.lock = .holdover → exec .watchdogExpiry s = .next { s.quiet with
          rx := { s.rx with watchdog := none, tracker := ⟨.waiting, none⟩, acquired := none } })
        ∧ (s.rx.lock = .locked → s.settings.fallback = false → ∃ t, exec .watchdogExpiry s = .next t
          ∧ t.rx = { s.rx with
              watchdog := none, lock := .search, run := false, tracker := ⟨.waiting, none⟩, acquired := none }
          ∧ t.tx = { s.tx with mode := .pass } ∧ t.comp.frame = .idle ∧ t.comp.blinkCounter = s.comp.blinkCounter
          ∧ t.scene = s.scene ∧ t.linkOut = []
          ∧ (∀ c, s.control c → noticeOffered s t c ([0x03, 1] ++ List.replicate 8 0))
          ∧ (s.noControl → t.replyQueue = s.replyQueue ∧ t.sessions = s.sessions ∧ t.engine = s.engine))))
  ∧ (∀ (s : State) (g : Geometry), s.settled → s.rx.watchdog.isSome = true → s.rx.lock = .locked →
      s.rx.geometry = some g → s.settings.fallback = true →
      ∃ t, exec .watchdogExpiry s = .next t
        ∧ t.rx = { s.rx with
            watchdog := none, lock := .holdover, run := false, tracker := ⟨.waiting, none⟩, acquired := none }
        ∧ t.tx = ⟨.generate, none, .running g .start s.settings.period, false, false, t.tx.linePixels⟩
        ∧ t.comp.frame = .idle ∧ t.scene = s.scene ∧ t.cells = s.cells ∧ t.settings = s.settings
        ∧ (t.linkOut.filter fun sym => sym = .le || sym = .fe)
            = (if s.tx.lineOpen then [.le] else []) ++ (if s.tx.frameOpen then [.fe] else [])
        ∧ (let before := match s.tx.gap with
             | some p => if p.kind = .blanking then 3 - p.forwarded.length else 0
             | none => 0
           let atLine := before + if s.tx.lineOpen = true ∧ s.tx.linePixels = false then 3 else 0
           let room := atLine + if s.tx.frameOpen then 3 else 0
           let packets := t.linkOut.filter fun sym => sym ≠ .le && sym ≠ .fe
           (s.noControl ∨ room ≤ s.replyQueue.length → t.linkOut = s.packetsOf before
              ++ (if s.tx.lineOpen then [.le] else []) ++ (s.packetsOf atLine).drop before
              ++ (if s.tx.frameOpen then [.fe] else []) ++ (s.packetsOf room).drop atLine)
           ∧ (s.noControl → t.replyQueue = s.replyQueue.drop room ∧ t.sessions = s.sessions)
           ∧ ∀ c, s.control c →
              let told : State := { s with replyQueue := s.replyQueue
                ++ [⟨.notice, (s.session c).peer, 0, [0x03, 4] ++ List.replicate 8 0⟩] }
              let joined : Prop := t.sessions = s.sessions ∧ ∃ n, t.replyQueue = told.replyQueue.drop n
                ∧ packets = told.packetsOf n
                ∧ (n = min room s.replyQueue.length ∨ (s.replyQueue.length < room ∧ n = s.replyQueue.length + 1))
              let lost : Prop := t.replyQueue = s.replyQueue.drop room ∧ packets = s.packetsOf room
                ∧ t.session c = { s.session c with noticeLost := true } ∧ ∀ a : Fin 4, a ≠ c → t.session a = s.session a
              (s.hasReplyRoom → joined ∨ (s.contested ∧ lost ∧ t.engine = .reserved))
              ∧ (¬ s.hasReplyRoom → lost ∨ (joined ∧ 0 < room ∧ s.replyQueue ≠ [])))
        ∧ (s.tx.lineOpen = false → s.tx.frameOpen = false → s.tx.gap = none → t.linkOut = []
            ∧ ∀ c, s.control c → noticeOffered s t c ([0x03, 4] ++ List.replicate 8 0)))

/-- R139, R140, R138, R4, R94, R95: a generated FS, at the first frame of HOLDOVER and at the end of a period with no
acquisition waiting, is a composited frame start of the held geometry and begins a period of the length now set. While an
acquisition waits at the end of a period the switch of R124 comes instead; the row does not arise there and changes nothing
(the model's choice, log entry 3). -/
def Obligations.GeneratedFrameStartIsComposited : Prop :=
  ∀ (s : State) (g : Geometry) (pos : GenPos) (period : Nat), s.settled → s.tx.generator = .running g pos period →
    (pos = .start ∨ (pos = .ended ∧ s.rx.acquired = none) → ∃ t, exec .generatedFrameStart s = .next t
      ∧ t.tx = ⟨s.tx.mode, none, .running g (.line 0) s.settings.period, true, false, false⟩
      ∧ t.scene.frameCounter = s.scene.frameCounter + 1
      ∧ (∀ e : Fin 4, (s.session e).isOpen = true → (s.session e).idle + 1 ≠ (s.session e).limit →
          (t.session e).isOpen = true ∧ (t.session e).idle = (s.session e).idle + 1)
      ∧ t.comp.frame = .drawing ∧ t.comp.geometry = some g ∧ (∀ k : Fin 8, t.comp.caches[k] = [] ∧ t.comp.rows[k] = none)
      ∧ t.comp.blinkCounter = s.comp.blinkCounter + 1 ∧ t.comp.blinkOn = s.comp.blinkOn
      ∧ t.rx = s.rx ∧ t.cells = s.cells ∧ t.glyphs = s.glyphs ∧ t.linkOut.getLast? = some .fs)
    ∧ (pos = .ended → s.rx.acquired ≠ none → exec .generatedFrameStart s = .next s.quiet)

/-- R139: the generator's lines 0 to T - 1, its W pixels on each active line, each the Compositor's result over the live fill
colour while DRAWING, made after the row fetches its line owes (R101), its line ends and its FE, each in turn; the period and
the receiver are untouched. -/
def Obligations.GeneratorMakesItsFrame : Prop :=
  ∀ (s : State) (g : Geometry) (pos : GenPos) (period k x : Nat), s.settled → s.tx.generator = .running g pos period →
    let makes (sym : Symbol) (next : GenPos) (t : State) : Prop :=
      exec .generatedSymbol s = .next t ∧ t.linkOut.getLast? = some sym ∧ t.tx.generator = .running g next period
        ∧ t.rx = s.rx ∧ t.scene = s.scene ∧ t.sessions = s.sessions ∧ t.cells = s.cells ∧ t.tx.mode = s.tx.mode
    (pos = .line k → ∃ t, makes (.ls k) (if g.l0 ≤ k ∧ k < g.l0 + g.h then .pixel k 0 else .lineEnd k) t
      ∧ t.tx.lineOpen = true ∧ (s.comp.frame ≠ .drawing ∨ k < g.l0 ∨ g.l0 + g.h ≤ k → t.comp = s.comp)
      ∧ (s.comp.frame = .drawing → g.l0 ≤ k → k < g.l0 + g.h → ∀ (a : Fin 8) (f : RowState), (a, f) ∈ t.comp.owed ↔
          a ∈ s.scene.live.order ∧ ∃ r, s.scene.live.windows[a] = some r ∧ fetchDue r (k - g.l0) f))
    ∧ (pos = .pixel k x → ∃ c t, makes (.px c) (if x + 1 < g.w then .pixel k (x + 1) else .lineEnd k) t
      ∧ (s.comp.frame ≠ .drawing ∨ s.scene.live.order = [] → c = s.scene.live.fill)
      ∧ (s.comp.frame = .drawing → s.comp.owed = [] → c = (mixPixel s x (k - g.l0) s.scene.live.fill).result)
      ∧ (s.comp.frame = .drawing →
          let mixed := mixPixel (fetchAll s) x (k - g.l0) s.scene.live.fill
          c = mixed.result ∧ t.comp = { (fetchAll s).comp with reads := mixed.reads }))
    ∧ (pos = .lineEnd k → ∃ t, makes .le (if k + 1 < g.t then .line (k + 1) else .frameEnd) t ∧ t.comp = s.comp
      ∧ (s.tx.lineOpen = true → t.tx.gap = some ⟨if s.tx.linePixels then .activeLine else .blanking, []⟩))
    ∧ (pos = .frameEnd → ∃ t, makes .fe .ended t ∧ t.comp.frame = .idle ∧ t.tx.gap = some ⟨.blanking, []⟩
      ∧ t.tx.frameOpen = false)

/-- R124, R118, R141, R128: at the end of a generated frame after a background success the receiver enters LOCKED with the
acquired geometry and is not judged until the next FS, the generator stops, the watchdog restarts, the output waits in AWAIT,
and the CONTROL session is told (R159, and R161 with log entry 35). The gap after the generated FE closes first, with its
insertion, and a WAITING engine tests again where entries leave in it. -/
def Obligations.RelockWaitsForTheNextFrame : Prop :=
  ∀ (s : State) (g a : Geometry) (period : Nat), s.settled → s.rx.lock = .holdover →
    s.tx.generator = .running g .ended period → s.rx.acquired = some a →
    ∃ t, exec .relockSwitch s = .next t
      ∧ t.rx = { s.rx with
          lock := .locked, geometry := some a, tracker := ⟨.waiting, none⟩, acquired := none, run := false
          watchdog := some s.settings.watchdog, frame := ⟨false, .afterFE, false⟩ }
      ∧ t.tx = { s.tx with mode := .await, generator := .idle, gap := none }
      ∧ t.scene = s.scene ∧ t.comp = s.comp ∧ t.cells = s.cells ∧ t.commandQueue = s.commandQueue
      ∧ (∀ forwarded, s.tx.gap = some ⟨.blanking, forwarded⟩ → t.linkOut = s.packetsOf (3 - forwarded.length)
          ∧ let left : State := { s with
              replyQueue := s.replyQueue.drop (3 - forwarded.length)
              engine := if s.engine = .waiting ∧ s.replyQueue ≠ [] ∧ forwarded.length < 3 then .testing else s.engine }
            (∀ c, s.control c → noticeOffered left t c
              ([0x03, 3] ++ bytes16 a.w ++ bytes16 a.h ++ bytes16 a.l0 ++ bytes16 a.t))
            ∧ (s.noControl → t.replyQueue = left.replyQueue ∧ t.sessions = s.sessions ∧ t.engine = left.engine))

/-! ### The stages of a composited frame start -/

/-- R13, R5, R12: stage 2 takes the listed slots out of the live Window Table and the live Order and empties the list. R12
advances the epoch for it at stage 4; that the row of stage 2 does so at once, where the list was not empty, is the model's
choice (log entry 4). Where the stage is not owed the row does not arise and changes nothing (the model's choice, log entry
3). -/
def Obligations.TeardownStageRemovesListedWindows : Prop :=
  ∀ s : State,
    (s.scene.stage ≠ .teardownDue → exec .applyTeardown s = .next s.quiet)
    ∧ (s.scene.stage = .teardownDue → ∃ t, exec .applyTeardown s = .next t
      ∧ t = { s.quiet with scene := { s.scene with
          live := { s.scene.live with
            windows := t.scene.live.windows
            order := s.scene.live.order.filter (fun k => decide (k ∉ s.scene.teardown)) }
          teardown := []
          epoch := if s.scene.teardown = [] then s.scene.epoch else s.scene.epoch + 1
          stage := .commitDue (decide (s.scene.teardown ≠ [])) } }
      ∧ ∀ k : Fin 8, t.scene.live.windows[k] = if k ∈ s.scene.teardown then none else s.scene.live.windows[k])

/-- R14, R9, R5, R3, R15: a pending commit that is due makes the staged scene live whole, clears the record, advances the epoch
unless the teardown did, and tells its issuer; otherwise the stage changes nothing. Where no stage is owed the row does not
arise and changes nothing (the model's choice, log entry 3). Where stage 2 is still owed, the row takes it first, as the order
of R12 asks (the model's choice, log entry 4). R159, R161: the notice or the engine takes the last free entry of the Reply
Queue (log entry 35). -/
def Obligations.CommitStageMakesStagingLive : Prop :=
  ∀ s : State,
    (s.scene.stage = .settled → exec .applyCommit s = .next s.quiet)
    ∧ (∀ u, s.scene.stage = .teardownDue → exec .applyTeardown s = .next u → exec .applyCommit s = exec .applyCommit u)
    ∧ ∀ advanced, s.scene.stage = .commitDue advanced →
      let due : Prop := s.scene.commit.pending = true
        ∧ (s.scene.commit.mode = .next ∨ (s.scene.frameCounter - s.scene.commit.target).toNat < 32768)
      let epoch := if advanced then s.scene.epoch else s.scene.epoch + 1
      let scene := { s.scene with
        live := s.scene.staged, commit := ⟨false, .next, 0, none⟩, epoch := epoch, stage := .settled }
      (¬ due → exec .applyCommit s = .next { s.quiet with scene := { s.scene with stage := .settled } })
      ∧ (due → (s.scene.commit.issuer = none
            ∨ ∃ e, s.scene.commit.issuer = some e ∧ (s.session e).isOpen = false) →
          exec .applyCommit s = .next { s.quiet with scene := scene })
      ∧ ∀ e, due → s.scene.commit.issuer = some e → (s.session e).isOpen = true → ∃ t, exec .applyCommit s = .next t
          ∧ t.scene = scene ∧ t.comp = s.comp ∧ t.rx = s.rx ∧ t.tx = s.tx ∧ t.commandQueue = s.commandQueue
          ∧ noticeOffered s t e ([0x01] ++ bytes16 epoch.toNat ++ bytes16 s.scene.frameCounter.toNat)

/-- R9, Table 6: a NEXT commit is due at every frame start. An AT commit set at counter C0 for target T is first due after
(T - C0) mod 65536 frame starts where that lies in 1 to 32769, and otherwise after one. -/
def Obligations.CommitWaitsForItsTarget : Prop :=
  (∀ target counter : Word, commitDue .next target counter = true)
  ∧ ∀ target start : Word,
    let distance := (target - start).toNat
    let wait := if 1 ≤ distance ∧ distance ≤ 32769 then distance else 1
    commitDue .at target (start + BitVec.ofNat 16 wait) = true
    ∧ ∀ k, 1 ≤ k → k < wait → commitDue .at target (start + BitVec.ofNat 16 k) = false

/-- R95, R96: the advanced blink counter is compared with the live period as it stands after the Scene Store's stages: at or
above it the counter becomes 0 and the phase toggles, below it both stand. -/
def Obligations.BlinkTogglesAtThePeriod : Prop :=
  ∀ s : State,
    (∀ u, s.scene.stage ≠ .settled → exec .applyCommit s = .next u → exec .blinkToggle s = exec .blinkToggle u)
    ∧ (s.scene.stage = .settled → s.comp.blinkCounter < s.scene.live.blinkPeriod → exec .blinkToggle s = .next s.quiet)
    ∧ (s.scene.stage = .settled → s.scene.live.blinkPeriod ≤ s.comp.blinkCounter →
        exec .blinkToggle s = .next { s.quiet with
          comp := { s.comp with blinkCounter := 0, blinkOn := !s.comp.blinkOn } })

/-- R155, R156, R18: the lowest OPEN entry whose idle count equals its limit ends, as any session end. While others remain to
end, its notice is owed; after the last, the CONTROL session then open is told of it. With no entry at its limit the row does
not arise and changes nothing (the model's choice, log entry 3); that a notice stays owed until the ends and the stages are
done is the model's choice too (log entry 5). R159, R161: the engine, where it is to test a session packet, or a notice takes
the last free entry (log entry 35). R12: where stage 2 is taken and stage 3 is not, the row takes stage 3 first. -/
def Obligations.ExpiredSessionsEndInOrder : Prop :=
  ∀ (s : State) (e : Fin 4),
    let due (a : Fin 4) : Prop := (s.session a).isOpen = true ∧ (s.session a).idle = (s.session a).limit
    let u := endSession e s.quiet
    let peers := s.expired ++ [(s.session e).peer]
    ((∀ a, ¬ due a) → exec .sessionExpiry s = .next s.quiet)
    ∧ (due e → (∀ a, a < e → ¬ due a) → (∃ a, e < a ∧ due a) → (s.scene.stage = .settled ∨ s.scene.stage = .teardownDue) →
        exec .sessionExpiry s = .next { u with expired := peers })
    ∧ (due e → (∀ a, a ≠ e → ¬ due a) → s.scene.stage = .teardownDue → ∃ t, exec .sessionExpiry s = .next t
        ∧ t.scene = u.scene ∧ t.session e = closedEntry ∧ t.commandQueue = u.commandQueue
        ∧ t.comp = s.comp ∧ t.cells = s.cells
        ∧ ∃ n, t.expired = peers.drop n ∧ endsTold u t (peers.take n))
    ∧ (due e → (∀ a, a ≠ e → ¬ due a) → s.scene.stage = .settled → ∃ t, exec .sessionExpiry s = .next t
        ∧ t.scene = u.scene ∧ t.session e = closedEntry ∧ t.commandQueue = u.commandQueue
        ∧ t.comp = s.comp ∧ t.cells = s.cells ∧ t.expired = [] ∧ endsTold u t peers
        ∧ (u.noControl → t = { u with expired := [] }))
    ∧ ∀ advanced w, due e → s.scene.stage = .commitDue advanced → exec .applyCommit s = .next w →
        exec .sessionExpiry s = exec .sessionExpiry w

/-! ### Packets in execution -/

/-- R161: the head of the Command Queue is tested: a broadcast packet is taken at once, a session packet if a Reply Queue
entry is free and unreserved, or was reserved for it when a notice sought the last one too (log entry 35), and else the
engine waits; with no packet the engine is idle. The row does nothing while a packet is in execution (the model's choice, log
entry 3). -/
def Obligations.HeadPacketIsTakenWithAReservation : Prop :=
  ∀ s : State, s.settled →
    (∀ x, s.engine = .executing x → exec .takeHeadPacket s = .next s.quiet)
    ∧ ((∀ x, s.engine ≠ .executing x) →
      (s.commandQueue = [] → exec .takeHeadPacket s = .next { s.quiet with engine := .idle })
      ∧ ∀ p rest, s.commandQueue = p :: rest →
        let u := { s.quiet with commandQueue := rest }
        (p.session = none → exec .takeHeadPacket s = .next (carryOnBroadcast ⟨p, 0, 0, [], none⟩ u))
        ∧ ∀ e, p.session = some e →
          (s.hasReplyRoom ∨ s.engine = .reserved → exec .takeHeadPacket s = .next (carryOn e ⟨p, 0, 0, [], none⟩ u))
          ∧ (¬ s.hasReplyRoom → s.engine ≠ .reserved → exec .takeHeadPacket s = .next { s.quiet with engine := .waiting }))

/-- R163, R165, R153, R174, R175: a packet goes on to a command whose code Table 52 has, and ends at its end or at a refusal: its
reply, with the status, the failed index, the executed count, the flags, the epoch, the frame counter and the data, joins the
Reply Queue and the cache, the flags clear, in-progress clears unless a packet of the session waits, and the engine tests the
next head. A refusal, of whatever status, ends it so with the position of the refused command; the statuses have the codes of
Table 54. -/
def Obligations.PacketEndsWithItsReply : Prop :=
  (∀ (e : Fin 4) (x : Executing) (s : State),
    (x.rest = [] → carryOn e x s = endPacket .ok 0 e x s)
    ∧ ∀ code tail, x.rest = code :: tail →
      ((∃ i, (i, code) ∈ commandRows) → carryOn e x s = { s with engine := .executing x })
      ∧ ((∀ i, (i, code) ∉ commandRows) → carryOn e x s = endPacket .badCommand (x.executed + 1) e x s))
  ∧ (∀ (x : Executing) (code len : Byte) (tail data : List Byte), x.rest = code :: len :: tail →
      x.after data = ⟨x.packet, x.pos + 2 + len.toNat, x.executed + 1, x.readData ++ data, none⟩)
  ∧ (∀ (status : Status) (e : Fin 4) (x : Executing) (s : State),
      refusePacket status e x s = endPacket status (x.executed + 1) e x s)
  ∧ [Status.ok, .badCommand, .badOperand, .notPermitted, .notOwner, .noWindow, .noSlot, .stageSealed, .commitPending,
      .outOfExtent, .tooLarge, .noSession, .tableFull, .roleTaken, .outOfSequence, .badOpen, .notShown].map Status.byte
      = [0x00, 0x01, 0x02, 0x03, 0x04, 0x05, 0x06, 0x07, 0x08, 0x09, 0x0A, 0x0B, 0x0C, 0x0D, 0x0E, 0x0F, 0x10]
  ∧ ∀ (status : Status) (failed : Nat) (e : Fin 4) (x : Executing) (s : State),
    let v := s.session e
    let reply : Outgoing := ⟨.reply, v.peer, x.packet.seq, replyBytes status.byte.toNat failed x.executed v.overrun
      v.noticeLost s.scene.commit.pending s.scene.epoch s.scene.frameCounter x.readData⟩
    endPacket status failed e x s =
      { s.setSession e { v with
          cache := some reply, overrun := false, noticeLost := false
          inProgress := v.inProgress && s.commandQueue.any (fun p => decide (p.session = some e)) } with
        replyQueue := s.replyQueue ++ [reply]
        engine := if s.commandQueue = [] then .idle else .testing }

/-- R163, R174, Table 11, Table 52: check 2. A command whose operands run past the payload, or do not have its length and ranges,
is refused BAD_OPERAND and nothing of it is done. A row that finds no such command changes nothing (the model's choice, log
entry 3). -/
def Obligations.OperandsOutOfRangeAreRefused : Prop :=
  ∀ (i : Instr) (code : Byte) (s : State), (i, code) ∈ commandRows → s.settled →
    (∀ e x ops, s.standsAt code e x ops → (i, code) ∈ plainCommands → operandsInRange i ops = false →
      exec i s = .next (refusePacket .badOperand e x s.quiet))
    ∧ (∀ e x ops, s.standsAt code e x ops → (i, code) ∈ slotCommands → windowOperandsInRange i ops = false →
      exec i s = .next (refusePacket .badOperand e x s.quiet))
    ∧ (∀ e x, s.engine = .executing x → x.packet.session = some e → x.long = none → x.rest.head? = some code →
      operandsOf x.rest = none → exec i s = .next (refusePacket .badOperand e x s.quiet))
    ∧ ((∀ x, s.engine = .executing x → x.long ≠ none ∨ x.rest.head? ≠ some code) → exec i s = .next s.quiet)

/-- R55, R56, R48: a fill step writes the named fields of one cell, in ascending order, and the last step ends the command.
Row fetches the line owes may fall before it, and see the cells as they stood (R60, R61). R55, R57, R58: a copy step reads
one source cell as it stands and writes all of it to its destination, rows and columns ascending when the destination base is
the lower, else descending. R55, R59, R49: a find step compares one cell with the pattern in the fields named, counts a match
and keeps the first; the last step appends the number of matches and the first index, 65535 when none. It writes nothing. The stores are in their
canonical form, the invariant of StepsKeepTheQueuesAndStores. -/
def Obligations.CellStepsTakeOneCellEach : Prop :=
  (∀ (s : State) (e : Fin 4) (x : Executing) (start count : Nat) (mask : BitVec 4) (cell : Cell) (done : Nat),
      s.inFlight e x (.fill start count mask cell done) → StoresCanonical s → ∃ b : State,
        b = { s.quiet with comp := b.comp, draws := b.draws, cells := b.cells }
        ∧ (∀ i, cellAt b.cells i =
            let old := cellAt s.cells i
            if i % 16384 = (start + done) % 16384 then
              ⟨if mask.getLsbD 0 then cell.code else old.code, if mask.getLsbD 1 then cell.fg else old.fg,
                if mask.getLsbD 2 then cell.bg else old.bg, if mask.getLsbD 3 then cell.flags else old.flags⟩
            else old)
        ∧ (s.comp.owed = [] → b.comp = s.comp) ∧ fetchesTaken s b
        ∧ exec .cellStep s = .next (if count ≤ done + 1 then carryOn e (x.after []) b else
            { b with engine := .executing { x with long := some (.fill start count mask cell (done + 1)) } }))
  ∧ (∀ (s : State) (e : Fin 4) (x : Executing) (sb sp db dp width height done : Nat),
      s.inFlight e x (.copy sb sp db dp width height done) → StoresCanonical s → ∃ b : State,
        let n := if db < sb then done else width * height - 1 - done
        b = { s.quiet with comp := b.comp, draws := b.draws, cells := b.cells }
        ∧ (∀ i, cellAt b.cells i =
            if i % 16384 = (db + n / width * dp + n % width) % 16384 then
              cellAt s.cells (sb + n / width * sp + n % width)
            else cellAt s.cells i)
        ∧ (s.comp.owed = [] → b.comp = s.comp) ∧ fetchesTaken s b
        ∧ exec .cellStep s = .next (if width * height ≤ done + 1 then carryOn e (x.after []) b else
            { b with engine := .executing { x with long := some (.copy sb sp db dp width height (done + 1)) } }))
  ∧ (∀ (s : State) (e : Fin 4) (x : Executing) (start count : Nat) (pattern : Cell) (mask : BitVec 4) (done matched : Nat)
      (first : Option Nat), s.inFlight e x (.find start count pattern mask done matched first) →
      ∃ hit : Bool,
        (hit = true ↔
          let c := cellAt s.cells (start + done)
          (mask.getLsbD 0 = true → c.code = pattern.code) ∧ (mask.getLsbD 1 = true → c.fg = pattern.fg)
            ∧ (mask.getLsbD 2 = true → c.bg = pattern.bg) ∧ (mask.getLsbD 3 = true → c.flags = pattern.flags))
        ∧ (let matched' := if hit then matched + 1 else matched
           let first' := if hit = true ∧ first = none then some ((start + done) % 16384) else first
           exec .cellStep s = .next (if count ≤ done + 1 then
              carryOn e (x.after (bytes16 matched' ++ bytes16 (first'.getD 65535))) s.quiet
            else { s.quiet with
              engine := .executing { x with long := some (.find start count pattern mask (done + 1) matched' first') } })))

/-- R71: a glyph step clears the 32 rows of one code, in ascending order, and the step of code 255 ends the command; no other
glyph changes. The stores are in their canonical form, the invariant of StepsKeepTheQueuesAndStores. A step row that finds no
long command of its kind changes nothing (the model's choice, log entry 3). -/
def Obligations.GlyphStepClearsOneGlyph : Prop :=
  (∀ (s : State) (e : Fin 4) (x : Executing) (bank done : Nat), s.inFlight e x (.clearBank bank done) →
    StoresCanonical s → bank ≤ 7 → done ≤ 255 → ∃ b : State, b = { s.quiet with glyphs := b.glyphs }
      ∧ (∀ bank' code row, bank' ≤ 7 → code ≤ 255 → row ≤ 31 → glyphRow b.glyphs bank' code row =
          if bank' = bank ∧ code = done then 0 else glyphRow s.glyphs bank' code row)
      ∧ exec .glyphStep s = .next (if done < 255 then
          { b with engine := .executing { x with long := some (.clearBank bank (done + 1)) } }
        else carryOn e (x.after []) b))
  ∧ ∀ s : State, s.settled → (∀ x, s.engine = .executing x → x.long = none) →
      exec .glyphStep s = .next s.quiet ∧ exec .cellStep s = .next s.quiet

/-! ### Commands of the part as a whole -/

/-- R168: KEEPALIVE. With no operands it is carried out for either role, changes no state, and counts as executed; an operand is
refused BAD_OPERAND; a packet that holds it alone is answered at once with the flags, the commit flag, the epoch and the
frame counter; and its admission sets the idle count to 0 (R150). -/
def Obligations.KeepaliveIsCountedAndChangesNothing : Prop :=
  ∀ (s : State) (e : Fin 4) (x : Executing) (ops : List Byte), s.standsAt 0x03 e x ops →
    (ops = [] → exec .keepalive s = .next (carryOn e (x.after []) s.quiet) ∧ (x.after []).executed = x.executed + 1)
    ∧ (ops ≠ [] → exec .keepalive s = .next (refusePacket .badOperand e x s.quiet))
    ∧ (x.packet.payload = [0x03, 0] → x.pos = 0 → x.executed = 0 → x.readData = [] → ∃ t, exec .keepalive s = .next t
        ∧ t.replyQueue = s.replyQueue ++ [⟨.reply, (s.session e).peer, x.packet.seq,
            replyBytes 0x00 0 1 (s.session e).overrun (s.session e).noticeLost s.scene.commit.pending s.scene.epoch
              s.scene.frameCounter []⟩])
    ∧ ∀ run source seq (r : State), r.takesCommand run source seq [0x03, 0] → seq ≠ 0 → r.holds source e →
        ∃ t, exec (.packetReceived run) r = .next t ∧ (t.session e).idle = 0

/-- R169: IDENTIFY. With no operands and room for 13 bytes it appends the codes, the revision, the unit address, the capacities
and the number of cells, for either role; with an operand it is refused BAD_OPERAND and without room TOO_LARGE. No row but
the release of RESETn changes the unit address (R116); that hard reset itself leaves it as it stands is the model's choice
(log entry 8). -/
def Obligations.IdentifyReportsThePart : Prop :=
  (∀ (s : State) (e : Fin 4) (x : Executing) (ops : List Byte), s.standsAt 0x04 e x ops →
    (ops = [] → x.hasRoom 13 → exec .identify s = .next (carryOn e
      (x.after [0x0E, 0x71, 0x71, 0x40, 1, s.unitAddress, 8, 4, 4, 8, 8, 0x40, 0x00]) s.quiet))
    ∧ (ops = [] → ¬ x.hasRoom 13 → exec .identify s = .next (refusePacket .tooLarge e x s.quiet))
    ∧ (ops ≠ [] → exec .identify s = .next (refusePacket .badOperand e x s.quiet)))
  ∧ ∀ (c : Instr) (s t : State), exec c s = .next t → (∀ straps, c ≠ .resetnReleased straps) →
      t.unitAddress = s.unitAddress

/-- R170, R157: CLOSE SESSION ends its packet with an OK reply that counts it and the commands before it, skips the rest, and then
ends the session. -/
def Obligations.CloseSessionRepliesAndEnds : Prop :=
  ∀ (s : State) (e : Fin 4) (x : Executing), s.standsAt 0x02 e x [] → ∃ t, exec .closeSession s = .next t
    ∧ t = endSession e (endPacket .ok 0 e (x.after []) s.quiet)
    ∧ t.session e = closedEntry
    ∧ t.replyQueue = s.replyQueue ++ [⟨.reply, (s.session e).peer, x.packet.seq,
        replyBytes 0x00 0 (x.executed + 1) (s.session e).overrun (s.session e).noticeLost s.scene.commit.pending
          s.scene.epoch s.scene.frameCounter x.readData⟩]
    ∧ t.scene.live = s.scene.live ∧ t.cells = s.cells ∧ t.glyphs = s.glyphs

/-- R171, R127, Table 46: READ STATUS appends its 25 bytes as one step; with CLEAR COUNTERS, from the CONTROL session, both link
counters are 0 after their values are taken. Where 25 bytes do not fit (R164) it is refused TOO_LARGE and clears nothing. The row
CLEAR_COUNTERS is the READ STATUS with its flag (log entry 16). -/
def Obligations.ReadStatusReportsAndClears : Prop :=
  ∀ (s : State) (e : Fin 4) (x : Executing) (flags : Byte), s.standsAt 0x05 e x [flags] →
    let lock : Byte := match s.rx.lock with
      | .init => 0
      | .search => 1
      | .acquire => 2
      | .locked => 3
      | .holdover => 4
    let geometry := match s.rx.geometry with
      | some g => bytes16 g.w ++ bytes16 g.h ++ bytes16 g.l0 ++ bytes16 g.t
      | none => [0, 0, 0, 0, 0, 0, 0, 0]
    let issuer : Byte := match s.scene.commit.issuer with
      | some a => byte a.1
      | none => 0xFF
    let data := [lock] ++ geometry ++ bytes16 s.scene.frameCounter.toNat ++ bytes16 s.scene.epoch.toNat
      ++ [if s.scene.commit.pending then 1 else 0, if s.scene.commit.mode = .at then 1 else 0]
      ++ bytes16 s.scene.commit.target.toNat ++ [issuer]
      ++ bytes16 s.rx.checkFailures.toNat ++ bytes16 s.rx.damagedFrames.toNat
      ++ [byte s.openCount, byte s.commandQueue.length, byte s.replyQueue.length]
    let cleared := { s.quiet with rx := { s.rx with checkFailures := 0, damagedFrames := 0 } }
    data.length = 25
    ∧ (x.hasRoom 25 →
      (flags = 0 → exec .readStatus s = .next (carryOn e (x.after data) s.quiet))
      ∧ (flags = 1 → (s.session e).role = .control →
          exec .readStatus s = .next (carryOn e (x.after data) cleared)
          ∧ exec .clearCounters s = .next (carryOn e (x.after data) cleared)))
    ∧ (¬ x.hasRoom 25 →
      (flags = 0 → exec .readStatus s = .next (refusePacket .tooLarge e x s.quiet))
      ∧ (flags = 1 → (s.session e).role = .control →
          exec .readStatus s = .next (refusePacket .tooLarge e x s.quiet)
          ∧ exec .clearCounters s = .next (refusePacket .tooLarge e x s.quiet)))

/-- R122: DEVICE SETTINGS from the CONTROL session replaces the three settings together, whether or not staging is sealed, and
touches neither the running watchdog interval nor the running period. -/
def Obligations.DeviceSettingsAreReplacedTogether : Prop :=
  ∀ (s : State) (e : Fin 4) (x : Executing) (enable a b c d ms : Byte),
    s.standsAt 0x06 e x [enable, a, b, c, d, ms] → operandsInRange .deviceSettings [enable, a, b, c, d, ms] = true →
    (s.session e).role = .control →
    exec .deviceSettings s = .next (carryOn e (x.after []) { s.quiet with
      settings := ⟨decide (enable = 1), be16 a b * 65536 + be16 c d, ms.toNat⟩ })

/-- R172, R158, R22, R97, R111, R129, Table 47: RESET DEVICE from the CONTROL session puts the scenes, the sessions, the queues,
the settings, the counters and the blink to their reset values in one step, keeps the stores, the receiver's lock, geometry,
tracker, run and watchdog interval, the transmitter and the frame state, and leaves its own reply alone in the Reply Queue. -/
def Obligations.ResetDeviceTakesTheValuesOfTable47 : Prop :=
  ∀ (s : State) (e : Fin 4) (x : Executing), s.standsAt 0x07 e x [] → (s.session e).role = .control →
    ∃ t, exec .resetDevice s = .next t
      ∧ t.scene.staged.atReset ∧ t.scene.live.atReset
      ∧ t.scene.commit = ⟨false, .next, 0, none⟩ ∧ t.scene.teardown = [] ∧ t.scene.frameCounter = 0 ∧ t.scene.epoch = 0
      ∧ (∀ a : Fin 4, t.session a = closedEntry) ∧ t.commandQueue = [] ∧ t.engine = .idle
      ∧ t.replyQueue = [⟨.reply, (s.session e).peer, x.packet.seq,
          replyBytes 0x00 0 (x.executed + 1) false false false 0 0 x.readData⟩]
      ∧ t.settings = ⟨false, 16667, 100⟩ ∧ t.rx = { s.rx with checkFailures := 0, damagedFrames := 0 }
      ∧ t.comp.frame = s.comp.frame ∧ t.comp.geometry = s.comp.geometry ∧ t.comp.blinkCounter = 0 ∧ t.comp.blinkOn = true
      ∧ (∀ k : Fin 8, t.comp.caches[k] = [] ∧ t.comp.rows[k] = none)
      ∧ t.tx = s.tx ∧ t.cells = s.cells ∧ t.glyphs = s.glyphs ∧ t.unitAddress = s.unitAddress

/-- R163, Table 44, R7, R68, R84, R122, R171, R172, R11: check 3 refuses a CLIENT the CONTROL-only commands, and either role the
SYNC COMMIT and OPEN SESSION of a session packet; check 6 refuses the staged commands of a session that passes the checks
before it while a commit is pending, and COMMIT itself with COMMIT_PENDING. -/
def Obligations.RolesAndSealingAreChecked : Prop :=
  (∀ (i : Instr) (code : Byte) (s : State) (e : Fin 4) (x : Executing) (ops : List Byte),
    (i, code) ∈ [(Instr.deviceSettings, (0x06 : Byte)), (.resetDevice, 0x07), (.writeGlyphRows, 0x30), (.clearBank, 0x31),
      (.setPalette, 0x40), (.setColours, 0x41), (.setOptions, 0x42)] →
    s.standsAt code e x ops → operandsInRange i ops = true → (s.session e).role = .client →
      exec i s = .next (refusePacket .notPermitted e x s.quiet))
  ∧ (∀ (s : State) (e : Fin 4) (x : Executing), s.standsAt 0x05 e x [1] → (s.session e).role = .client →
      exec .readStatus s = .next (refusePacket .notPermitted e x s.quiet)
      ∧ exec .clearCounters s = .next (refusePacket .notPermitted e x s.quiet))
  ∧ (∀ (i : Instr) (code : Byte) (s : State) (e : Fin 4) (x : Executing) (ops : List Byte),
    (i, code) ∈ [(Instr.openSessionCommand, (0x01 : Byte)), (.syncCommit, 0x52)] →
    s.standsAt code e x ops → operandsInRange i ops = true →
      exec i s = .next (refusePacket .notPermitted e x s.quiet))
  ∧ (∀ (i : Instr) (code : Byte) (s : State) (e : Fin 4) (x : Executing) (ops : List Byte),
    (i, code) ∈ [(Instr.claimWindow, (0x10 : Byte)), (.setPalette, 0x40), (.setColours, 0x41), (.setOptions, 0x42)] →
    s.standsAt code e x ops → operandsInRange i ops = true → (i ≠ .claimWindow → (s.session e).role = .control) →
    s.scene.commit.pending = true → exec i s = .next (refusePacket .stageSealed e x s.quiet))
  ∧ ∀ (s : State) (e : Fin 4) (x : Executing) (ops : List Byte), s.standsAt 0x50 e x ops →
      operandsInRange .commit ops = true → s.scene.commit.pending = true →
      exec .commit s = .next (refusePacket .commitPending e x s.quiet)

/-! ### Windows -/

/-- R30, R164, Table 9: CLAIM WINDOW gives the lowest unclaimed staged slot the default record, hidden and owned by the session,
and appends its number; with all slots claimed it is refused NO_SLOT, and with no room for the byte TOO_LARGE. -/
def Obligations.ClaimTakesTheLowestUnclaimedSlot : Prop :=
  ∀ (s : State) (e : Fin 4) (x : Executing), s.standsAt 0x10 e x [] → s.scene.commit.pending = false →
    ((∀ k : Fin 8, s.scene.staged.windows[k] ≠ none) → exec .claimWindow s = .next (refusePacket .noSlot e x s.quiet))
    ∧ ∀ k : Fin 8, s.scene.staged.windows[k] = none → (∀ a : Fin 8, a < k → s.scene.staged.windows[a] ≠ none) →
      (¬ x.hasRoom 1 → exec .claimWindow s = .next (refusePacket .tooLarge e x s.quiet))
      ∧ (x.hasRoom 1 → exec .claimWindow s = .next (carryOn e (x.after [byte k.1]) (s.quiet.setWindowRecord k
          { x := 0, y := 0, columns := 1, rows := 1, cellWidth := 8, cellHeight := 16, pitch := 1, base := 0, fine := 0,
            bankA := 0, bankB := 0, palette := 0, dualBank := false, blinkEnable := true, underlineLine := 31,
            cursor := none, border := none, key := none, split := none, owner := e })))

/-- R27, R7, Table 11: checks 4, 5 and 6 of every command that names a slot, in their order: NO_WINDOW where the slot is
unclaimed in staging, NOT_OWNER for a CLIENT that does not own it, STAGE_SEALED while a commit is pending. -/
def Obligations.WindowChecksComeInOrder : Prop :=
  ∀ (i : Instr) (code b : Byte) (tail : List Byte) (s : State) (e : Fin 4) (x : Executing) (slot : Fin 8),
    (i, code) ∈ slotCommands → s.standsAt code e x (b :: tail) → windowOperandsInRange i (b :: tail) = true →
    b.toNat = slot.1 →
    (s.scene.staged.windows[slot] = none → exec i s = .next (refusePacket .noWindow e x s.quiet))
    ∧ ∀ r, s.scene.staged.windows[slot] = some r →
      ((s.session e).role = .client → r.owner ≠ e → exec i s = .next (refusePacket .notOwner e x s.quiet))
      ∧ ((s.session e).role = .control ∨ r.owner = e → s.scene.commit.pending = true →
          exec i s = .next (refusePacket .stageSealed e x s.quiet))

/-- R31, R40, R41, R29: RELEASE WINDOW, SHOW WINDOW and HIDE WINDOW. The slot leaves the staged Order, the others keeping their
order; a release also leaves it unclaimed; a show puts it at the front, at the back, or next to a reference that must stand in
the Order, else NOT_SHOWN. The live scene is not changed. -/
def Obligations.StagedOrderFollowsItsCommands : Prop :=
  ∀ (s : State) (e : Fin 4) (x : Executing) (b : Byte) (slot : Fin 8) (r : WindowRecord),
    b.toNat = slot.1 → s.mayEdit e slot r →
    let others := s.scene.staged.order.filter (fun k => decide (k ≠ slot))
    let ordered (order : List (Fin 8)) : State := s.quiet.setStaged { s.scene.staged with order := order }
    (s.standsAt 0x11 e x [b] → exec .releaseWindow s = .next (carryOn e (x.after []) (s.quiet.setStaged
        { s.scene.staged with windows := s.scene.staged.windows.set slot none, order := others })))
    ∧ (s.standsAt 0x1B e x [b] → exec .hideWindow s = .next (carryOn e (x.after []) (ordered others)))
    ∧ (∀ ref, s.standsAt 0x1A e x [b, 0, ref] →
        exec .showWindow s = .next (carryOn e (x.after []) (ordered (slot :: others))))
    ∧ (∀ ref, s.standsAt 0x1A e x [b, 1, ref] →
        exec .showWindow s = .next (carryOn e (x.after []) (ordered (others ++ [slot]))))
    ∧ ∀ (placement ref : Byte) (reference : Fin 8), s.standsAt 0x1A e x [b, placement, ref] → ref.toNat = reference.1 →
        reference ≠ slot → (placement = 2 ∨ placement = 3) →
        (reference ∉ s.scene.staged.order → exec .showWindow s = .next (refusePacket .notShown e x s.quiet))
        ∧ ∀ front behind, others = front ++ reference :: behind → reference ∉ front →
          (placement = 2 →
            exec .showWindow s = .next (carryOn e (x.after []) (ordered (front ++ slot :: reference :: behind))))
          ∧ (placement = 3 →
            exec .showWindow s = .next (carryOn e (x.after []) (ordered (front ++ reference :: slot :: behind))))

/-- R32, R24, R28: SET WINDOW replaces every field of the record but the parts and the owner, together, where the parts
present fit the new record, and is else refused BAD_OPERAND. R33 to R39, R24, R28: MOVE WINDOW, SET SCROLL, SET CURSOR, SET
BORDER, SET KEY, SET SPLIT and CLEAR PART each write their own fields or part of one staged record and nothing else; the
record checks of SET SCROLL, SET BORDER and SET SPLIT refuse with BAD_OPERAND. -/
def Obligations.RecordCommandsWriteTheirFields : Prop :=
  (∀ (s : State) (e : Fin 4) (x : Executing) (slot : Fin 8) (r : WindowRecord)
      (b xh xl yh yl cols rows cw ch pitch bh bl fine ba bb pal opts ul : Byte),
      s.standsAt 0x12 e x [b, xh, xl, yh, yl, cols, rows, cw, ch, pitch, bh, bl, fine, ba, bb, pal, opts, ul] →
      recordGroupInRange [xh, xl, yh, yl, cols, rows, cw, ch, pitch, bh, bl, fine, ba, bb, pal, opts, ul] = true →
      b.toNat = slot.1 → s.mayEdit e slot r →
      let fits : Prop := (∀ p, r.border = some p → rows.toNat * ch.toNat + 2 * p.width ≤ 2304)
        ∧ ∀ p, r.split = some p → p.row ≤ rows.toNat - 1
      (fits → exec .setWindow s = .next (carryOn e (x.after []) (s.quiet.setWindowRecord slot
          ⟨be16 xh xl, be16 yh yl, cols.toNat, rows.toNat, cw.toNat, ch.toNat, pitch.toNat, be16 bh bl, fine.toNat,
            ba.toNat, bb.toNat, Fin.ofNat 4 pal.toNat, opts.getLsbD 0, opts.getLsbD 1, ul.toNat,
            r.cursor, r.border, r.key, r.split, r.owner⟩)))
      ∧ (¬ fits → exec .setWindow s = .next (refusePacket .badOperand e x s.quiet)))
  ∧ (∀ (s : State) (e : Fin 4) (x : Executing) (b : Byte) (slot : Fin 8) (r : WindowRecord),
      b.toNat = slot.1 → s.mayEdit e slot r →
      let writes (i : Instr) (r' : WindowRecord) : Prop :=
        exec i s = .next (carryOn e (x.after []) (s.quiet.setWindowRecord slot r'))
      let refuses (i : Instr) : Prop := exec i s = .next (refusePacket .badOperand e x s.quiet)
      let stands (i : Instr) (code : Byte) (group : List Byte) : Prop :=
        s.standsAt code e x (b :: group) ∧ windowOperandsInRange i (b :: group) = true
      (∀ xh xl yh yl, stands .moveWindow 0x13 [xh, xl, yh, yl] →
        writes .moveWindow { r with x := be16 xh xl, y := be16 yh yl })
      ∧ (∀ bh bl fine, stands .setScroll 0x14 [bh, bl, fine] →
        (fine.toNat < r.cellHeight → writes .setScroll { r with base := be16 bh bl, fine := fine.toNat })
        ∧ (r.cellHeight ≤ fine.toNat → refuses .setScroll))
      ∧ (∀ ch cl start stop blink, stands .setCursor 0x15 [ch, cl, start, stop, blink] →
        writes .setCursor { r with cursor := some ⟨be16 ch cl, start.toNat, stop.toNat, decide (blink = 1)⟩ })
      ∧ (∀ width colour, stands .setBorder 0x16 [width, colour] →
        (r.rows * r.cellHeight + 2 * width.toNat ≤ 2304 → writes .setBorder { r with border := some ⟨width.toNat, colour⟩ })
        ∧ (2304 < r.rows * r.cellHeight + 2 * width.toNat → refuses .setBorder))
      ∧ (∀ kr kg kb mr mg mb sense, stands .setKey 0x17 [kr, kg, kb, mr, mg, mb, sense] →
        writes .setKey { r with
          key := some ⟨⟨kr, kg, kb⟩, ⟨mr, mg, mb⟩, if sense = 0 then .isMatch else .noMatch⟩ })
      ∧ (∀ row bh bl, stands .setSplit 0x18 [row, bh, bl] →
        (row.toNat ≤ r.rows - 1 → writes .setSplit { r with split := some ⟨row.toNat, be16 bh bl⟩ })
        ∧ (r.rows - 1 < row.toNat → refuses .setSplit))
      ∧ (stands .clearPart 0x19 [0] → writes .clearPart { r with cursor := none })
      ∧ (stands .clearPart 0x19 [1] → writes .clearPart { r with border := none })
      ∧ (stands .clearPart 0x19 [2] → writes .clearPart { r with key := none })
      ∧ (stands .clearPart 0x19 [3] → writes .clearPart { r with split := none }))

/-! ### Reads -/

/-- R42, R43, R88, R89, R54, R73, R20, R164, Table 51: the reads append the selected scene, cells or glyph as it stands, for either
role, and change nothing; where their data would pass 200 bytes they are refused TOO_LARGE. -/
def Obligations.ReadsReportWhatStands : Prop :=
  ∀ (s : State) (e : Fin 4) (x : Executing) (sel : Byte),
    let sc := if sel = 1 then s.scene.live else s.scene.staged
    let reads (i : Instr) (data : List Byte) : Prop :=
      (x.hasRoom data.length → exec i s = .next (carryOn e (x.after data) s.quiet))
      ∧ (¬ x.hasRoom data.length → exec i s = .next (refusePacket .tooLarge e x s.quiet))
    let stands (i : Instr) (code : Byte) (ops : List Byte) : Prop :=
      s.standsAt code e x ops ∧ operandsInRange i ops = true
    (stands .readOrder 0x1D [sel] → reads .readOrder (byte sc.order.length :: sc.order.map fun k => byte k.1))
    ∧ (∀ (b : Byte) (slot : Fin 8), stands .readWindow 0x1C [sel, b] → b.toNat = slot.1 →
      (sc.windows[slot] = none → reads .readWindow ([0, 0, 0xFF, 0] ++ List.replicate 35 0))
      ∧ ∀ r, sc.windows[slot] = some r →
        reads .readWindow ([1, byte r.owner.1, if (s.session r.owner).isOpen then (s.session r.owner).peer else 0xFF,
            if sel = 1 ∧ slot ∈ s.scene.teardown then 1 else 0]
          ++ bytes16 r.x ++ bytes16 r.y ++ [byte r.columns, byte r.rows, byte r.cellWidth, byte r.cellHeight, byte r.pitch]
          ++ bytes16 r.base ++ [byte r.fine, byte r.bankA, byte r.bankB, byte r.palette.1,
            byte ((if r.dualBank then 1 else 0) + (if r.blinkEnable then 2 else 0)), byte r.underlineLine,
            byte ((if r.cursor = none then 0 else 1) + (if r.border = none then 0 else 2)
              + (if r.key = none then 0 else 4) + (if r.split = none then 0 else 8))]
          ++ (match r.cursor with
            | some c => bytes16 c.cell ++ [byte c.startLine, byte c.endLine, if c.blink then 1 else 0]
            | none => [0, 0, 0, 0, 0])
          ++ (match r.border with
            | some p => [byte p.width, p.colour]
            | none => [0, 0])
          ++ (match r.key with
            | some k => [k.colour.r, k.colour.g, k.colour.b, k.mask.r, k.mask.g, k.mask.b, if k.sense = .isMatch then 0 else 1]
            | none => [0, 0, 0, 0, 0, 0, 0])
          ++ (match r.split with
            | some p => [byte p.row] ++ bytes16 p.base
            | none => [0, 0, 0])))
    ∧ (∀ (b : Byte) (p : Fin 4), stands .readPalette 0x43 [sel, b] → b.toNat = p.1 →
      reads .readPalette (sc.palettes[p].toList ++ [byte sc.blinkPeriod, sc.indexMask, sc.fill.r, sc.fill.g, sc.fill.b]))
    ∧ (∀ first count, stands .readColours 0x44 [sel, first, count] →
      reads .readColours (((sc.colours.toList.drop first.toNat).take count.toNat).flatMap fun c =>
        [c.colour.r, c.colour.g, c.colour.b, byte c.coverage]))
    ∧ (∀ sh sl count, stands .readCells 0x23 [sh, sl, count] →
      reads .readCells ((List.range count.toNat).flatMap fun i =>
        let c := cellAt s.cells (be16 sh sl + i)
        [c.code, c.bg ++ c.fg, c.flags.setWidth 8]))
    ∧ ∀ bank code, stands .readGlyph 0x32 [bank, code] →
      reads .readGlyph ((List.range 32).flatMap fun row =>
        bytes16 (glyphRow s.glyphs bank.toNat code.toNat row).toNat)

/-! ### Cells, glyphs and colours -/

/-- R53, R48, R52, R46: WRITE CELLS writes its list, in the fields its mask names, to the cells from its start on and to no
other, as one step; for a CLIENT every target must lie in its own extents, else OUT_OF_EXTENT and no cell is written. R26,
R52: the extents of the windows an entry owns in staging: the (rows + 1) x pitch cells from base and, with a split, the (rows
- S) x pitch cells from the split base, modulo 16,384. Row fetches the line owes may fall before the step, and see the cells as
they stood (R60, R101). The stores are in their canonical form, the invariant of
StepsKeepTheQueuesAndStores. -/
def Obligations.WriteCellsStaysInItsExtents : Prop :=
  (∀ (s : State) (e : Fin 4) (x : Executing) (sh sl mask : Byte) (list : List Byte),
      s.standsAt 0x20 e x (sh :: sl :: mask :: list) → StoresCanonical s → operandsInRange .writeCells (sh :: sl :: mask :: list) = true →
      let targets := (List.range (list.length / 3)).map fun k => (be16 sh sl + k) % 16384
      (¬ s.mayWrite e targets → exec .writeCells s = .next (refusePacket .outOfExtent e x s.quiet))
      ∧ (s.mayWrite e targets → ∃ b : State, exec .writeCells s = .next (carryOn e (x.after []) b)
        ∧ b = { s.quiet with comp := b.comp, draws := b.draws, cells := b.cells }
        ∧ (s.comp.owed = [] → b.comp = s.comp) ∧ fetchesTaken s b
        ∧ (∀ i, i % 16384 ∉ targets → cellAt b.cells i = cellAt s.cells i)
        ∧ ∀ k, k < list.length / 3 →
            let old := cellAt s.cells (be16 sh sl + k)
            let colours := list.getD (3 * k + 1) 0
            cellAt b.cells (be16 sh sl + k) =
              ⟨if mask.getLsbD 0 then list.getD (3 * k) 0 else old.code,
                if mask.getLsbD 1 then colours.extractLsb' 0 4 else old.fg,
                if mask.getLsbD 2 then colours.extractLsb' 4 4 else old.bg,
                if mask.getLsbD 3 then (list.getD (3 * k + 2) 0).extractLsb' 0 4 else old.flags⟩))
  ∧ (∀ (sc : Scene) (e : Fin 4) (i : Nat), inOwnExtents sc e i = true ↔
      ∃ (k : Fin 8) (r : WindowRecord), sc.windows[k] = some r ∧ r.owner = e
        ∧ ((∃ j, j < (r.rows + 1) * r.pitch ∧ i % 16384 = (r.base + j) % 16384)
          ∨ ∃ p, r.split = some p ∧ ∃ j, j < (r.rows - p.row) * r.pitch ∧ i % 16384 = (p.base + j) % 16384))

/-- R56, R57, R59, R52, R71, R164: FILL CELLS, COPY CELLS, FIND CELLS and CLEAR BANK begin their steps with their operands and change
nothing yet. A CLIENT's fill or copy with a target outside its extents is refused OUT_OF_EXTENT, and a find without room for
four bytes TOO_LARGE. -/
def Obligations.LongCommandsBeginTheirSteps : Prop :=
  ∀ (s : State) (e : Fin 4) (x : Executing),
    let begins (i : Instr) (c : LongCommand) : Prop :=
      exec i s = .next { s.quiet with engine := .executing { x with long := some c } }
    let stands (i : Instr) (code : Byte) (ops : List Byte) : Prop :=
      s.standsAt code e x ops ∧ operandsInRange i ops = true
    (∀ sh sl ch cl mask a colours flags : Byte, stands .fillCells 0x21 [sh, sl, ch, cl, mask, a, colours, flags] →
      let targets := (List.range (be16 ch cl)).map fun k => (be16 sh sl + k) % 16384
      (s.mayWrite e targets → begins .fillCells (.fill (be16 sh sl) (be16 ch cl) (mask.extractLsb' 0 4)
        ⟨a, colours.extractLsb' 0 4, colours.extractLsb' 4 4, flags.extractLsb' 0 4⟩ 0))
      ∧ (¬ s.mayWrite e targets → exec .fillCells s = .next (refusePacket .outOfExtent e x s.quiet)))
    ∧ (∀ sh sl sp dh dl dp width height : Byte, stands .copyCells 0x22 [sh, sl, sp, dh, dl, dp, width, height] →
      let targets := (List.range (width.toNat * height.toNat)).map fun k =>
        (be16 dh dl + k / width.toNat * dp.toNat + k % width.toNat) % 16384
      (s.mayWrite e targets → begins .copyCells
        (.copy (be16 sh sl) sp.toNat (be16 dh dl) dp.toNat width.toNat height.toNat 0))
      ∧ (¬ s.mayWrite e targets → exec .copyCells s = .next (refusePacket .outOfExtent e x s.quiet)))
    ∧ (∀ sh sl ch cl a colours flags mask : Byte, stands .findCells 0x24 [sh, sl, ch, cl, a, colours, flags, mask] →
      (x.hasRoom 4 → begins .findCells (.find (be16 sh sl) (be16 ch cl)
        ⟨a, colours.extractLsb' 0 4, colours.extractLsb' 4 4, flags.extractLsb' 0 4⟩ (mask.extractLsb' 0 4) 0 0 none))
      ∧ (¬ x.hasRoom 4 → exec .findCells s = .next (refusePacket .tooLarge e x s.quiet)))
    ∧ ∀ bank : Byte, stands .clearBank 0x31 [bank] → (s.session e).role = .control →
      begins .clearBank (.clearBank bank.toNat 0)

/-- R69, R70, Table 19: WRITE GLYPH ROWS from the CONTROL session. Where the mask names the dot the new dot is the operation's
result on the old dot and the data dot, elsewhere the old dot, for the rows of the run; every other row stands. The stores are
in their canonical form, the invariant of StepsKeepTheQueuesAndStores. -/
def Obligations.GlyphRowsCombineDotByDot : Prop :=
  ∀ (s : State) (e : Fin 4) (x : Executing) (bank code first count op mh ml : Byte) (rows : List Byte),
    s.standsAt 0x30 e x (bank :: code :: first :: count :: op :: mh :: ml :: rows) →
    operandsInRange .writeGlyphRows (bank :: code :: first :: count :: op :: mh :: ml :: rows) = true →
    (s.session e).role = .control → StoresCanonical s →
    ∃ b : State, exec .writeGlyphRows s = .next (carryOn e (x.after []) b) ∧ b = { s.quiet with glyphs := b.glyphs }
      ∧ ∀ bank' code' row dot : Nat, bank' ≤ 7 → code' ≤ 255 → row ≤ 31 → dot ≤ 15 →
        let old := (glyphRow s.glyphs bank' code' row).getLsbD dot
        let new := (glyphRow b.glyphs bank' code' row).getLsbD dot
        let k := row - first.toNat
        let data := (rows.getD (2 * k) 0 ++ rows.getD (2 * k + 1) 0 : Word).getLsbD dot
        let inRun : Prop := bank' = bank.toNat ∧ code' = code.toNat ∧ first.toNat ≤ row ∧ row < first.toNat + count.toNat
        (inRun → (mh ++ ml : Word).getLsbD dot = true →
          (op = 0 → new = data) ∧ (op = 1 → new = (old && data)) ∧ (op = 2 → new = (old || data))
            ∧ (op = 3 → new = (old ^^ data)))
        ∧ (inRun → (mh ++ ml : Word).getLsbD dot = false → new = old)
        ∧ (¬ inRun → new = old)

/-- R85, R86, R87, R45: SET PALETTE, SET COLOURS and SET OPTIONS from the CONTROL session with staging open write their entries of
the staged scene and no other part of it, and not the live scene. -/
def Obligations.ColourCommandsWriteStaging : Prop :=
  ∀ (s : State) (e : Fin 4) (x : Executing), (s.session e).role = .control → s.scene.commit.pending = false →
    let stands (i : Instr) (code : Byte) (ops : List Byte) : Prop :=
      s.standsAt code e x ops ∧ operandsInRange i ops = true
    (∀ b first indices, stands .setPalette 0x40 (b :: first :: indices) → ∃ sc : Scene,
      exec .setPalette s = .next (carryOn e (x.after []) (s.quiet.setStaged sc))
      ∧ sc = { s.scene.staged with palettes := sc.palettes }
      ∧ ∀ (p : Fin 4) (k : Fin 16), (sc.palettes[p])[k] =
          if p.1 = b.toNat ∧ first.toNat ≤ k.1 ∧ k.1 < first.toNat + indices.length then indices.getD (k.1 - first.toNat) 0
          else (s.scene.staged.palettes[p])[k])
    ∧ (∀ first list, stands .setColours 0x41 (first :: list) → ∃ sc : Scene,
      exec .setColours s = .next (carryOn e (x.after []) (s.quiet.setStaged sc))
      ∧ sc = { s.scene.staged with colours := sc.colours }
      ∧ ∀ i : Fin 256, sc.colours[i] =
          let k := 4 * (i.1 - first.toNat)
          if first.toNat ≤ i.1 ∧ i.1 < first.toNat + list.length / 4 then
            ⟨⟨list.getD k 0, list.getD (k + 1) 0, list.getD (k + 2) 0⟩, (list.getD (k + 3) 0).toNat⟩
          else s.scene.staged.colours[i])
    ∧ ∀ period mask r g b, stands .setOptions 0x42 [period, mask, r, g, b] →
      exec .setOptions s = .next (carryOn e (x.after []) (s.quiet.setStaged
        { s.scene.staged with blinkPeriod := period.toNat, indexMask := mask, fill := ⟨r, g, b⟩ }))

/-- R8, R10, R11, R3, R167: COMMIT sets the record with the session as its issuer; DISCARD copies the live scene, less the slots
awaiting teardown, into staging and clears the record; a broadcast SYNC COMMIT sets mode AT with no issuer unless a commit is
pending, and stops its packet silently for a wrong operand. -/
def Obligations.CommitDiscardAndSyncSetTheRecord : Prop :=
  (∀ (s : State) (e : Fin 4) (x : Executing) (mode th tl : Byte), s.standsAt 0x50 e x [mode, th, tl] →
    s.scene.commit.pending = false →
    (mode = 0 → exec .commit s = .next (carryOn e (x.after []) { s.quiet with
      scene := { s.scene with commit := ⟨true, .next, 0, some e⟩ } }))
    ∧ (mode = 1 → exec .commit s = .next (carryOn e (x.after []) { s.quiet with
      scene := { s.scene with commit := ⟨true, .at, th ++ tl, some e⟩ } })))
  ∧ (∀ (s : State) (e : Fin 4) (x : Executing), s.standsAt 0x51 e x [] → ∃ b : State,
      exec .discard s = .next (carryOn e (x.after []) b)
      ∧ b = { s.quiet with scene := { s.scene with
          staged := { s.scene.live with
            windows := b.scene.staged.windows
            order := s.scene.live.order.filter (fun k => decide (k ∉ s.scene.teardown)) }
          commit := ⟨false, .next, 0, none⟩ } }
      ∧ ∀ k : Fin 8, b.scene.staged.windows[k] = if k ∈ s.scene.teardown then none else s.scene.live.windows[k])
  ∧ (∀ (s : State) (x : Executing) (th tl : Byte), s.broadcastAt 0x52 x [th, tl] →
      let u := if s.scene.commit.pending then s.quiet else
        { s.quiet with scene := { s.scene with commit := ⟨true, .at, th ++ tl, none⟩ } }
      exec .syncCommit s = .next (carryOnBroadcast (x.after []) u))
  ∧ (∀ (s : State) (x : Executing) (ops : List Byte), s.broadcastAt 0x52 x ops → ops.length ≠ 2 →
      exec .syncCommit s = .next { s.quiet with engine := if s.commandQueue = [] then .idle else .testing })
  ∧ ∀ (x : Executing) (s : State),
      (∀ tail, x.rest = 0x52 :: tail → carryOnBroadcast x s = { s with engine := .executing x })
      ∧ (x.rest.head? ≠ some 0x52 →
          carryOnBroadcast x s = { s with engine := if s.commandQueue = [] then .idle else .testing })

/-! ### Laws of every step -/

/-- R2, R7, R45: with the last frame start complete, the live scene changes only at a composited frame start, at hard reset
and at RESET DEVICE; and while a commit is pending the staged scene changes only at those, at DISCARD and where a session
ends; the Command Queue changes only where a packet arrives, its head is taken, a session ends or the part is reset (R162).
R46, R47, R65, R67, R122, R127: the cells change only at WRITE CELLS, a cell step and the sweep, the glyphs only at
WRITE GLYPH ROWS, a glyph step and the sweep, the device settings only at DEVICE SETTINGS, RESET DEVICE and hard reset, and
the check-failure counter only at a packet, those two resets and CLEAR COUNTERS. -/
def Obligations.ScenesAndStoresChangeAtTheirRows : Prop :=
  (∀ (c : Instr) (s t : State), s.settled → exec c s = .next t →
      (t.scene.live = s.scene.live ∨ c = .resetnAsserted ∨ c = .resetDevice
        ∨ (c = .frameStart ∧ s.rx.lock = .locked) ∨ (c = .generatedFrameStart ∧ s.tx.generator ≠ .idle))
      ∧ (s.scene.commit.pending = true → t.scene.staged = s.scene.staged
        ∨ c ∈ [Instr.resetnAsserted, .resetDevice, .discard, .closeSession, .frameStart, .generatedFrameStart]
        ∨ ∃ run, c = .packetReceived run)
      ∧ (t.commandQueue = s.commandQueue ∨ (∃ run, c = .packetReceived run)
        ∨ c ∈ [Instr.resetnAsserted, .resetDevice, .closeSession, .takeHeadPacket, .frameStart, .generatedFrameStart]))
  ∧ (∀ (c : Instr) (s t : State), exec c s = .next t →
      (t.cells = s.cells ∨ c ∈ [Instr.writeCells, .cellStep, .initialisationSweepEnd])
      ∧ (t.glyphs = s.glyphs ∨ c ∈ [Instr.writeGlyphRows, .glyphStep, .initialisationSweepEnd])
      ∧ (t.settings = s.settings ∨ c ∈ [Instr.deviceSettings, .resetDevice, .resetnAsserted])
      ∧ (t.rx.checkFailures = s.rx.checkFailures ∨ (∃ run, c = .packetReceived run)
        ∨ c ∈ [Instr.resetDevice, .resetnAsserted, .readStatus, .clearCounters]))

/-- R162, R161, R46, R65: every step keeps the queue bounds, the engine idle exactly with nothing to take, a Reply Queue entry
reserved before the taking only for a session packet at the head (log entry 35), and the stores canonical and within their
bounds. -/
def Obligations.StepsKeepTheQueuesAndStores : Prop :=
  ∀ s t : State, step s = .next t →
    QueueBounds s ∧ EngineLaw s ∧ StoresCanonical s ∧ LongInRange s →
    QueueBounds t ∧ EngineLaw t ∧ StoresCanonical t ∧ LongInRange t

/-- R143, R144, R17: every step keeps the Session Table's law, CLOSED entries at their fixed values, and the owner of every staged
window OPEN. -/
def Obligations.StepsKeepTheSessionsAndOwners : Prop :=
  ∀ s t : State, step s = .next t → SessionLaw s ∧ OwnerLaw s → SessionLaw t ∧ OwnerLaw t

/-- R23, R29, R78, R79: every step keeps, in both scenes, the ranges and relations of the records, the Order's law, and the ranges
of the colour state. -/
def Obligations.StepsKeepTheScenesInRange : Prop :=
  ∀ s t : State, step s = .next t →
    (RecordsLaw s.scene.staged ∧ OrderLaw s.scene.staged ∧ ColourLaw s.scene.staged)
      ∧ (RecordsLaw s.scene.live ∧ OrderLaw s.scene.live ∧ ColourLaw s.scene.live) →
    (RecordsLaw t.scene.staged ∧ OrderLaw t.scene.staged ∧ ColourLaw t.scene.staged)
      ∧ RecordsLaw t.scene.live ∧ OrderLaw t.scene.live ∧ ColourLaw t.scene.live

/-- Table 37, R121, R116, R124: every step keeps the output mode in accord with the lock state, the watchdog stopped in INIT and
SEARCH, and the unit address in its range. -/
def Obligations.StepsKeepTheModeAndWatchdog : Prop :=
  ∀ s t : State, step s = .next t → ModeLaw s ∧ WatchdogLaw s ∧ UnitLaw s → ModeLaw t ∧ WatchdogLaw t ∧ UnitLaw t

/-- R21, R116, R144, R161, R162: the state after reset keeps every law that the steps keep. Its unit address is the model's choice (log entry 8). -/
def Obligations.ResetKeepsTheLaws : Prop :=
  QueueBounds State.reset ∧ EngineLaw State.reset ∧ StoresCanonical State.reset ∧ LongInRange State.reset
  ∧ SessionLaw State.reset ∧ OwnerLaw State.reset
  ∧ (RecordsLaw State.reset.scene.staged ∧ OrderLaw State.reset.scene.staged ∧ ColourLaw State.reset.scene.staged)
  ∧ (RecordsLaw State.reset.scene.live ∧ OrderLaw State.reset.scene.live ∧ ColourLaw State.reset.scene.live)
  ∧ ModeLaw State.reset ∧ WatchdogLaw State.reset ∧ UnitLaw State.reset

end
end

