-- ==== Sys2Proof/Laws/State.lean ====
section
/-! SUPPORT. One lemma per field per update, so that no proof unfolds a record update; and reading a session after a write. -/

namespace Sys2Proof.Machine

/-! ### setSession -/

@[simp] theorem setSession_resetn (s : State) (e : Fin 4) (v : Session) : (s.setSession e v).resetn = s.resetn := rfl
@[simp] theorem setSession_unitAddress (s : State) (e : Fin 4) (v : Session) :
    (s.setSession e v).unitAddress = s.unitAddress := rfl
@[simp] theorem setSession_scene (s : State) (e : Fin 4) (v : Session) : (s.setSession e v).scene = s.scene := rfl
@[simp] theorem setSession_cells (s : State) (e : Fin 4) (v : Session) : (s.setSession e v).cells = s.cells := rfl
@[simp] theorem setSession_glyphs (s : State) (e : Fin 4) (v : Session) : (s.setSession e v).glyphs = s.glyphs := rfl
@[simp] theorem setSession_sessions (s : State) (e : Fin 4) (v : Session) :
    (s.setSession e v).sessions = s.sessions.set e v := rfl
@[simp] theorem setSession_expired (s : State) (e : Fin 4) (v : Session) :
    (s.setSession e v).expired = s.expired := rfl
@[simp] theorem setSession_engine (s : State) (e : Fin 4) (v : Session) : (s.setSession e v).engine = s.engine := rfl
@[simp] theorem setSession_commandQueue (s : State) (e : Fin 4) (v : Session) :
    (s.setSession e v).commandQueue = s.commandQueue := rfl
@[simp] theorem setSession_replyQueue (s : State) (e : Fin 4) (v : Session) :
    (s.setSession e v).replyQueue = s.replyQueue := rfl
@[simp] theorem setSession_settings (s : State) (e : Fin 4) (v : Session) :
    (s.setSession e v).settings = s.settings := rfl
@[simp] theorem setSession_rx (s : State) (e : Fin 4) (v : Session) : (s.setSession e v).rx = s.rx := rfl
@[simp] theorem setSession_comp (s : State) (e : Fin 4) (v : Session) : (s.setSession e v).comp = s.comp := rfl
@[simp] theorem setSession_tx (s : State) (e : Fin 4) (v : Session) : (s.setSession e v).tx = s.tx := rfl
@[simp] theorem setSession_linkOut (s : State) (e : Fin 4) (v : Session) :
    (s.setSession e v).linkOut = s.linkOut := rfl
@[simp] theorem setSession_draws (s : State) (e : Fin 4) (v : Session) : (s.setSession e v).draws = s.draws := rfl
@[simp] theorem setSession_pending (s : State) (e : Fin 4) (v : Session) :
    (s.setSession e v).pending = s.pending := rfl

/-! ### joinReplies -/

@[simp] theorem joinReplies_resetn (s : State) (o : Outgoing) : (s.joinReplies o).resetn = s.resetn := rfl
@[simp] theorem joinReplies_unitAddress (s : State) (o : Outgoing) :
    (s.joinReplies o).unitAddress = s.unitAddress := rfl
@[simp] theorem joinReplies_scene (s : State) (o : Outgoing) : (s.joinReplies o).scene = s.scene := rfl
@[simp] theorem joinReplies_cells (s : State) (o : Outgoing) : (s.joinReplies o).cells = s.cells := rfl
@[simp] theorem joinReplies_glyphs (s : State) (o : Outgoing) : (s.joinReplies o).glyphs = s.glyphs := rfl
@[simp] theorem joinReplies_sessions (s : State) (o : Outgoing) : (s.joinReplies o).sessions = s.sessions := rfl
@[simp] theorem joinReplies_expired (s : State) (o : Outgoing) : (s.joinReplies o).expired = s.expired := rfl
@[simp] theorem joinReplies_engine (s : State) (o : Outgoing) : (s.joinReplies o).engine = s.engine := rfl
@[simp] theorem joinReplies_commandQueue (s : State) (o : Outgoing) :
    (s.joinReplies o).commandQueue = s.commandQueue := rfl
@[simp] theorem joinReplies_replyQueue (s : State) (o : Outgoing) :
    (s.joinReplies o).replyQueue = s.replyQueue ++ [o] := rfl
@[simp] theorem joinReplies_settings (s : State) (o : Outgoing) : (s.joinReplies o).settings = s.settings := rfl
@[simp] theorem joinReplies_rx (s : State) (o : Outgoing) : (s.joinReplies o).rx = s.rx := rfl
@[simp] theorem joinReplies_comp (s : State) (o : Outgoing) : (s.joinReplies o).comp = s.comp := rfl
@[simp] theorem joinReplies_tx (s : State) (o : Outgoing) : (s.joinReplies o).tx = s.tx := rfl
@[simp] theorem joinReplies_linkOut (s : State) (o : Outgoing) : (s.joinReplies o).linkOut = s.linkOut := rfl
@[simp] theorem joinReplies_draws (s : State) (o : Outgoing) : (s.joinReplies o).draws = s.draws := rfl
@[simp] theorem joinReplies_pending (s : State) (o : Outgoing) : (s.joinReplies o).pending = s.pending := rfl

/-! ### joinCommands -/

@[simp] theorem joinCommands_resetn (s : State) (p : Packet) : (s.joinCommands p).resetn = s.resetn := rfl
@[simp] theorem joinCommands_unitAddress (s : State) (p : Packet) :
    (s.joinCommands p).unitAddress = s.unitAddress := rfl
@[simp] theorem joinCommands_scene (s : State) (p : Packet) : (s.joinCommands p).scene = s.scene := rfl
@[simp] theorem joinCommands_cells (s : State) (p : Packet) : (s.joinCommands p).cells = s.cells := rfl
@[simp] theorem joinCommands_glyphs (s : State) (p : Packet) : (s.joinCommands p).glyphs = s.glyphs := rfl
@[simp] theorem joinCommands_sessions (s : State) (p : Packet) : (s.joinCommands p).sessions = s.sessions := rfl
@[simp] theorem joinCommands_expired (s : State) (p : Packet) : (s.joinCommands p).expired = s.expired := rfl
@[simp] theorem joinCommands_commandQueue (s : State) (p : Packet) :
    (s.joinCommands p).commandQueue = s.commandQueue ++ [p] := rfl
@[simp] theorem joinCommands_replyQueue (s : State) (p : Packet) : (s.joinCommands p).replyQueue = s.replyQueue := rfl
@[simp] theorem joinCommands_settings (s : State) (p : Packet) : (s.joinCommands p).settings = s.settings := rfl
@[simp] theorem joinCommands_rx (s : State) (p : Packet) : (s.joinCommands p).rx = s.rx := rfl
@[simp] theorem joinCommands_comp (s : State) (p : Packet) : (s.joinCommands p).comp = s.comp := rfl
@[simp] theorem joinCommands_tx (s : State) (p : Packet) : (s.joinCommands p).tx = s.tx := rfl
@[simp] theorem joinCommands_linkOut (s : State) (p : Packet) : (s.joinCommands p).linkOut = s.linkOut := rfl
@[simp] theorem joinCommands_draws (s : State) (p : Packet) : (s.joinCommands p).draws = s.draws := rfl
@[simp] theorem joinCommands_pending (s : State) (p : Packet) : (s.joinCommands p).pending = s.pending := rfl

/-! ### setStaged -/

@[simp] theorem setStaged_resetn (s : State) (sc : Scene) : (s.setStaged sc).resetn = s.resetn := rfl
@[simp] theorem setStaged_unitAddress (s : State) (sc : Scene) : (s.setStaged sc).unitAddress = s.unitAddress := rfl
@[simp] theorem setStaged_scene (s : State) (sc : Scene) :
    (s.setStaged sc).scene = { s.scene with staged := sc } := rfl
@[simp] theorem setStaged_cells (s : State) (sc : Scene) : (s.setStaged sc).cells = s.cells := rfl
@[simp] theorem setStaged_glyphs (s : State) (sc : Scene) : (s.setStaged sc).glyphs = s.glyphs := rfl
@[simp] theorem setStaged_sessions (s : State) (sc : Scene) : (s.setStaged sc).sessions = s.sessions := rfl
@[simp] theorem setStaged_expired (s : State) (sc : Scene) : (s.setStaged sc).expired = s.expired := rfl
@[simp] theorem setStaged_engine (s : State) (sc : Scene) : (s.setStaged sc).engine = s.engine := rfl
@[simp] theorem setStaged_commandQueue (s : State) (sc : Scene) :
    (s.setStaged sc).commandQueue = s.commandQueue := rfl
@[simp] theorem setStaged_replyQueue (s : State) (sc : Scene) : (s.setStaged sc).replyQueue = s.replyQueue := rfl
@[simp] theorem setStaged_settings (s : State) (sc : Scene) : (s.setStaged sc).settings = s.settings := rfl
@[simp] theorem setStaged_rx (s : State) (sc : Scene) : (s.setStaged sc).rx = s.rx := rfl
@[simp] theorem setStaged_comp (s : State) (sc : Scene) : (s.setStaged sc).comp = s.comp := rfl
@[simp] theorem setStaged_tx (s : State) (sc : Scene) : (s.setStaged sc).tx = s.tx := rfl
@[simp] theorem setStaged_linkOut (s : State) (sc : Scene) : (s.setStaged sc).linkOut = s.linkOut := rfl
@[simp] theorem setStaged_draws (s : State) (sc : Scene) : (s.setStaged sc).draws = s.draws := rfl
@[simp] theorem setStaged_pending (s : State) (sc : Scene) : (s.setStaged sc).pending = s.pending := rfl

/-! ### setWindowRecord -/

@[simp] theorem setWindowRecord_resetn (s : State) (k : Fin 8) (r : WindowRecord) :
    (s.setWindowRecord k r).resetn = s.resetn := rfl
@[simp] theorem setWindowRecord_unitAddress (s : State) (k : Fin 8) (r : WindowRecord) :
    (s.setWindowRecord k r).unitAddress = s.unitAddress := rfl
@[simp] theorem setWindowRecord_scene (s : State) (k : Fin 8) (r : WindowRecord) :
    (s.setWindowRecord k r).scene = { s.scene with staged := { s.scene.staged with windows := s.scene.staged.windows.set k (some r) } } := rfl
@[simp] theorem setWindowRecord_cells (s : State) (k : Fin 8) (r : WindowRecord) :
    (s.setWindowRecord k r).cells = s.cells := rfl
@[simp] theorem setWindowRecord_glyphs (s : State) (k : Fin 8) (r : WindowRecord) :
    (s.setWindowRecord k r).glyphs = s.glyphs := rfl
@[simp] theorem setWindowRecord_sessions (s : State) (k : Fin 8) (r : WindowRecord) :
    (s.setWindowRecord k r).sessions = s.sessions := rfl
@[simp] theorem setWindowRecord_expired (s : State) (k : Fin 8) (r : WindowRecord) :
    (s.setWindowRecord k r).expired = s.expired := rfl
@[simp] theorem setWindowRecord_engine (s : State) (k : Fin 8) (r : WindowRecord) :
    (s.setWindowRecord k r).engine = s.engine := rfl
@[simp] theorem setWindowRecord_commandQueue (s : State) (k : Fin 8) (r : WindowRecord) :
    (s.setWindowRecord k r).commandQueue = s.commandQueue := rfl
@[simp] theorem setWindowRecord_replyQueue (s : State) (k : Fin 8) (r : WindowRecord) :
    (s.setWindowRecord k r).replyQueue = s.replyQueue := rfl
@[simp] theorem setWindowRecord_settings (s : State) (k : Fin 8) (r : WindowRecord) :
    (s.setWindowRecord k r).settings = s.settings := rfl
@[simp] theorem setWindowRecord_rx (s : State) (k : Fin 8) (r : WindowRecord) :
    (s.setWindowRecord k r).rx = s.rx := rfl
@[simp] theorem setWindowRecord_comp (s : State) (k : Fin 8) (r : WindowRecord) :
    (s.setWindowRecord k r).comp = s.comp := rfl
@[simp] theorem setWindowRecord_tx (s : State) (k : Fin 8) (r : WindowRecord) :
    (s.setWindowRecord k r).tx = s.tx := rfl
@[simp] theorem setWindowRecord_linkOut (s : State) (k : Fin 8) (r : WindowRecord) :
    (s.setWindowRecord k r).linkOut = s.linkOut := rfl
@[simp] theorem setWindowRecord_draws (s : State) (k : Fin 8) (r : WindowRecord) :
    (s.setWindowRecord k r).draws = s.draws := rfl
@[simp] theorem setWindowRecord_pending (s : State) (k : Fin 8) (r : WindowRecord) :
    (s.setWindowRecord k r).pending = s.pending := rfl

/-! ### quiet -/

@[simp] theorem quiet_resetn (s : State) : s.quiet.resetn = s.resetn := rfl
@[simp] theorem quiet_unitAddress (s : State) : s.quiet.unitAddress = s.unitAddress := rfl
@[simp] theorem quiet_scene (s : State) : s.quiet.scene = s.scene := rfl
@[simp] theorem quiet_cells (s : State) : s.quiet.cells = s.cells := rfl
@[simp] theorem quiet_glyphs (s : State) : s.quiet.glyphs = s.glyphs := rfl
@[simp] theorem quiet_sessions (s : State) : s.quiet.sessions = s.sessions := rfl
@[simp] theorem quiet_expired (s : State) : s.quiet.expired = s.expired := rfl
@[simp] theorem quiet_engine (s : State) : s.quiet.engine = s.engine := rfl
@[simp] theorem quiet_commandQueue (s : State) : s.quiet.commandQueue = s.commandQueue := rfl
@[simp] theorem quiet_replyQueue (s : State) : s.quiet.replyQueue = s.replyQueue := rfl
@[simp] theorem quiet_settings (s : State) : s.quiet.settings = s.settings := rfl
@[simp] theorem quiet_rx (s : State) : s.quiet.rx = s.rx := rfl
@[simp] theorem quiet_comp (s : State) : s.quiet.comp = s.comp := rfl
@[simp] theorem quiet_tx (s : State) : s.quiet.tx = s.tx := rfl
@[simp] theorem quiet_linkOut (s : State) : s.quiet.linkOut = [] := rfl
@[simp] theorem quiet_draws (s : State) : s.quiet.draws = s.draws := rfl
@[simp] theorem quiet_pending (s : State) : s.quiet.pending = s.pending := rfl

/-! ### draw -/

@[simp] theorem draw_resetn (s : State) : s.draw.2.resetn = s.resetn := rfl
@[simp] theorem draw_unitAddress (s : State) : s.draw.2.unitAddress = s.unitAddress := rfl
@[simp] theorem draw_scene (s : State) : s.draw.2.scene = s.scene := rfl
@[simp] theorem draw_cells (s : State) : s.draw.2.cells = s.cells := rfl
@[simp] theorem draw_glyphs (s : State) : s.draw.2.glyphs = s.glyphs := rfl
@[simp] theorem draw_sessions (s : State) : s.draw.2.sessions = s.sessions := rfl
@[simp] theorem draw_expired (s : State) : s.draw.2.expired = s.expired := rfl
@[simp] theorem draw_engine (s : State) : s.draw.2.engine = s.engine := rfl
@[simp] theorem draw_commandQueue (s : State) : s.draw.2.commandQueue = s.commandQueue := rfl
@[simp] theorem draw_replyQueue (s : State) : s.draw.2.replyQueue = s.replyQueue := rfl
@[simp] theorem draw_settings (s : State) : s.draw.2.settings = s.settings := rfl
@[simp] theorem draw_rx (s : State) : s.draw.2.rx = s.rx := rfl
@[simp] theorem draw_comp (s : State) : s.draw.2.comp = s.comp := rfl
@[simp] theorem draw_tx (s : State) : s.draw.2.tx = s.tx := rfl
@[simp] theorem draw_linkOut (s : State) : s.draw.2.linkOut = s.linkOut := rfl
@[simp] theorem draw_draws (s : State) : s.draw.2.draws = s.draws + 1 := rfl
@[simp] theorem draw_pending (s : State) : s.draw.2.pending = s.pending := rfl

/-! ### emit -/

@[simp] theorem emit_resetn (sym : Symbol) (s : State) : (emit sym s).resetn = s.resetn := rfl
@[simp] theorem emit_unitAddress (sym : Symbol) (s : State) : (emit sym s).unitAddress = s.unitAddress := rfl
@[simp] theorem emit_scene (sym : Symbol) (s : State) : (emit sym s).scene = s.scene := rfl
@[simp] theorem emit_cells (sym : Symbol) (s : State) : (emit sym s).cells = s.cells := rfl
@[simp] theorem emit_glyphs (sym : Symbol) (s : State) : (emit sym s).glyphs = s.glyphs := rfl
@[simp] theorem emit_sessions (sym : Symbol) (s : State) : (emit sym s).sessions = s.sessions := rfl
@[simp] theorem emit_expired (sym : Symbol) (s : State) : (emit sym s).expired = s.expired := rfl
@[simp] theorem emit_engine (sym : Symbol) (s : State) : (emit sym s).engine = s.engine := rfl
@[simp] theorem emit_commandQueue (sym : Symbol) (s : State) : (emit sym s).commandQueue = s.commandQueue := rfl
@[simp] theorem emit_replyQueue (sym : Symbol) (s : State) : (emit sym s).replyQueue = s.replyQueue := rfl
@[simp] theorem emit_settings (sym : Symbol) (s : State) : (emit sym s).settings = s.settings := rfl
@[simp] theorem emit_rx (sym : Symbol) (s : State) : (emit sym s).rx = s.rx := rfl
@[simp] theorem emit_comp (sym : Symbol) (s : State) : (emit sym s).comp = s.comp := rfl
@[simp] theorem emit_tx (sym : Symbol) (s : State) : (emit sym s).tx = s.tx := rfl
@[simp] theorem emit_linkOut (sym : Symbol) (s : State) : (emit sym s).linkOut = s.linkOut ++ [sym] := rfl
@[simp] theorem emit_draws (sym : Symbol) (s : State) : (emit sym s).draws = s.draws := rfl
@[simp] theorem emit_pending (sym : Symbol) (s : State) : (emit sym s).pending = s.pending := rfl

/-! ### setGenerator -/

@[simp] theorem setGenerator_resetn (g : Geometry) (pos : GenPos) (period : Nat) (s : State) :
    (setGenerator g pos period s).resetn = s.resetn := rfl
@[simp] theorem setGenerator_unitAddress (g : Geometry) (pos : GenPos) (period : Nat) (s : State) :
    (setGenerator g pos period s).unitAddress = s.unitAddress := rfl
@[simp] theorem setGenerator_scene (g : Geometry) (pos : GenPos) (period : Nat) (s : State) :
    (setGenerator g pos period s).scene = s.scene := rfl
@[simp] theorem setGenerator_cells (g : Geometry) (pos : GenPos) (period : Nat) (s : State) :
    (setGenerator g pos period s).cells = s.cells := rfl
@[simp] theorem setGenerator_glyphs (g : Geometry) (pos : GenPos) (period : Nat) (s : State) :
    (setGenerator g pos period s).glyphs = s.glyphs := rfl
@[simp] theorem setGenerator_sessions (g : Geometry) (pos : GenPos) (period : Nat) (s : State) :
    (setGenerator g pos period s).sessions = s.sessions := rfl
@[simp] theorem setGenerator_expired (g : Geometry) (pos : GenPos) (period : Nat) (s : State) :
    (setGenerator g pos period s).expired = s.expired := rfl
@[simp] theorem setGenerator_engine (g : Geometry) (pos : GenPos) (period : Nat) (s : State) :
    (setGenerator g pos period s).engine = s.engine := rfl
@[simp] theorem setGenerator_commandQueue (g : Geometry) (pos : GenPos) (period : Nat) (s : State) :
    (setGenerator g pos period s).commandQueue = s.commandQueue := rfl
@[simp] theorem setGenerator_replyQueue (g : Geometry) (pos : GenPos) (period : Nat) (s : State) :
    (setGenerator g pos period s).replyQueue = s.replyQueue := rfl
@[simp] theorem setGenerator_settings (g : Geometry) (pos : GenPos) (period : Nat) (s : State) :
    (setGenerator g pos period s).settings = s.settings := rfl
@[simp] theorem setGenerator_rx (g : Geometry) (pos : GenPos) (period : Nat) (s : State) :
    (setGenerator g pos period s).rx = s.rx := rfl
@[simp] theorem setGenerator_comp (g : Geometry) (pos : GenPos) (period : Nat) (s : State) :
    (setGenerator g pos period s).comp = s.comp := rfl
@[simp] theorem setGenerator_tx (g : Geometry) (pos : GenPos) (period : Nat) (s : State) :
    (setGenerator g pos period s).tx = { s.tx with generator := .running g pos period } := rfl
@[simp] theorem setGenerator_linkOut (g : Geometry) (pos : GenPos) (period : Nat) (s : State) :
    (setGenerator g pos period s).linkOut = s.linkOut := rfl
@[simp] theorem setGenerator_draws (g : Geometry) (pos : GenPos) (period : Nat) (s : State) :
    (setGenerator g pos period s).draws = s.draws := rfl
@[simp] theorem setGenerator_pending (g : Geometry) (pos : GenPos) (period : Nat) (s : State) :
    (setGenerator g pos period s).pending = s.pending := rfl

/-! ### restartWatchdog -/

@[simp] theorem restartWatchdog_resetn (s : State) : (restartWatchdog s).resetn = s.resetn := rfl
@[simp] theorem restartWatchdog_unitAddress (s : State) : (restartWatchdog s).unitAddress = s.unitAddress := rfl
@[simp] theorem restartWatchdog_scene (s : State) : (restartWatchdog s).scene = s.scene := rfl
@[simp] theorem restartWatchdog_cells (s : State) : (restartWatchdog s).cells = s.cells := rfl
@[simp] theorem restartWatchdog_glyphs (s : State) : (restartWatchdog s).glyphs = s.glyphs := rfl
@[simp] theorem restartWatchdog_sessions (s : State) : (restartWatchdog s).sessions = s.sessions := rfl
@[simp] theorem restartWatchdog_expired (s : State) : (restartWatchdog s).expired = s.expired := rfl
@[simp] theorem restartWatchdog_engine (s : State) : (restartWatchdog s).engine = s.engine := rfl
@[simp] theorem restartWatchdog_commandQueue (s : State) : (restartWatchdog s).commandQueue = s.commandQueue := rfl
@[simp] theorem restartWatchdog_replyQueue (s : State) : (restartWatchdog s).replyQueue = s.replyQueue := rfl
@[simp] theorem restartWatchdog_settings (s : State) : (restartWatchdog s).settings = s.settings := rfl
@[simp] theorem restartWatchdog_rx (s : State) :
    (restartWatchdog s).rx = { s.rx with watchdog := some s.settings.watchdog } := rfl
@[simp] theorem restartWatchdog_comp (s : State) : (restartWatchdog s).comp = s.comp := rfl
@[simp] theorem restartWatchdog_tx (s : State) : (restartWatchdog s).tx = s.tx := rfl
@[simp] theorem restartWatchdog_linkOut (s : State) : (restartWatchdog s).linkOut = s.linkOut := rfl
@[simp] theorem restartWatchdog_draws (s : State) : (restartWatchdog s).draws = s.draws := rfl
@[simp] theorem restartWatchdog_pending (s : State) : (restartWatchdog s).pending = s.pending := rfl

/-! ### clearLinkCounters -/

@[simp] theorem clearLinkCounters_resetn (s : State) : (clearLinkCounters s).resetn = s.resetn := rfl
@[simp] theorem clearLinkCounters_unitAddress (s : State) : (clearLinkCounters s).unitAddress = s.unitAddress := rfl
@[simp] theorem clearLinkCounters_scene (s : State) : (clearLinkCounters s).scene = s.scene := rfl
@[simp] theorem clearLinkCounters_cells (s : State) : (clearLinkCounters s).cells = s.cells := rfl
@[simp] theorem clearLinkCounters_glyphs (s : State) : (clearLinkCounters s).glyphs = s.glyphs := rfl
@[simp] theorem clearLinkCounters_sessions (s : State) : (clearLinkCounters s).sessions = s.sessions := rfl
@[simp] theorem clearLinkCounters_expired (s : State) : (clearLinkCounters s).expired = s.expired := rfl
@[simp] theorem clearLinkCounters_engine (s : State) : (clearLinkCounters s).engine = s.engine := rfl
@[simp] theorem clearLinkCounters_commandQueue (s : State) :
    (clearLinkCounters s).commandQueue = s.commandQueue := rfl
@[simp] theorem clearLinkCounters_replyQueue (s : State) : (clearLinkCounters s).replyQueue = s.replyQueue := rfl
@[simp] theorem clearLinkCounters_settings (s : State) : (clearLinkCounters s).settings = s.settings := rfl
@[simp] theorem clearLinkCounters_rx (s : State) :
    (clearLinkCounters s).rx = { s.rx with checkFailures := 0, damagedFrames := 0 } := rfl
@[simp] theorem clearLinkCounters_comp (s : State) : (clearLinkCounters s).comp = s.comp := rfl
@[simp] theorem clearLinkCounters_tx (s : State) : (clearLinkCounters s).tx = s.tx := rfl
@[simp] theorem clearLinkCounters_linkOut (s : State) : (clearLinkCounters s).linkOut = s.linkOut := rfl
@[simp] theorem clearLinkCounters_draws (s : State) : (clearLinkCounters s).draws = s.draws := rfl
@[simp] theorem clearLinkCounters_pending (s : State) : (clearLinkCounters s).pending = s.pending := rfl

/-! ### Sessions -/

@[simp] theorem session_setSession_same (s : State) (e : Fin 4) (v : Session) : (s.setSession e v).session e = v := by
  simp [State.session, State.setSession]

theorem session_setSession_other (s : State) (e e' : Fin 4) (v : Session) (h : e' ≠ e) :
    (s.setSession e v).session e' = s.session e' := by
  have hne : (e : Nat) ≠ (e' : Nat) := fun he => h (Fin.ext he.symm)
  simp [State.session, State.setSession, hne]

theorem session_congr (s t : State) (h : s.sessions = t.sessions) (e : Fin 4) : s.session e = t.session e := by
  simp [State.session, h]

end Sys2Proof.Machine
end

