-- ==== Sys2Proof/Laws/Frame.lean ====
section
/-! SUPPORT. What the shared operations leave as it stands: for each, one simp lemma over every field it does not touch. -/

namespace Sys2Proof.Machine

/-- A fold of steps that each keep a value keeps it. -/
theorem foldl_keeps {α β γ : Type} (get : β → γ) (f : β → α → β) (h : ∀ b a, get (f b a) = get b) (l : List α) (b : β) :
    get (l.foldl f b) = get b := by
  induction l generalizing b with
  | nil => rfl
  | cons a rest ih => exact (ih (f b a)).trans (h b a)

@[simp] theorem contestEntry_frame (s : State) :
    (contestEntry s).resetn = s.resetn ∧ (contestEntry s).unitAddress = s.unitAddress
    ∧ (contestEntry s).scene = s.scene ∧ (contestEntry s).cells = s.cells ∧ (contestEntry s).glyphs = s.glyphs
    ∧ (contestEntry s).sessions = s.sessions ∧ (contestEntry s).expired = s.expired
    ∧ (contestEntry s).commandQueue = s.commandQueue ∧ (contestEntry s).replyQueue = s.replyQueue
    ∧ (contestEntry s).settings = s.settings ∧ (contestEntry s).rx = s.rx ∧ (contestEntry s).comp = s.comp
    ∧ (contestEntry s).tx = s.tx ∧ (contestEntry s).linkOut = s.linkOut ∧ (contestEntry s).pending = s.pending := by
  unfold contestEntry
  dsimp only
  split_ifs <;> simp

@[simp] theorem contestEntry_session (s : State) (e : Fin 4) : (contestEntry s).session e = s.session e := by
  simp [State.session]

@[simp] theorem offerNotice_frame (e : Fin 4) (p : List Byte) (s : State) :
    (offerNotice e p s).resetn = s.resetn ∧ (offerNotice e p s).unitAddress = s.unitAddress
    ∧ (offerNotice e p s).scene = s.scene ∧ (offerNotice e p s).cells = s.cells
    ∧ (offerNotice e p s).glyphs = s.glyphs ∧ (offerNotice e p s).expired = s.expired ∧ (offerNotice e p s).commandQueue = s.commandQueue
    ∧ (offerNotice e p s).settings = s.settings ∧ (offerNotice e p s).rx = s.rx ∧ (offerNotice e p s).comp = s.comp
    ∧ (offerNotice e p s).tx = s.tx ∧ (offerNotice e p s).linkOut = s.linkOut
    ∧ (offerNotice e p s).pending = s.pending := by
  unfold offerNotice
  dsimp only
  split_ifs <;> simp

@[simp] theorem reportLockChange_frame (s : State) :
    (reportLockChange s).resetn = s.resetn ∧ (reportLockChange s).unitAddress = s.unitAddress
    ∧ (reportLockChange s).scene = s.scene ∧ (reportLockChange s).cells = s.cells
    ∧ (reportLockChange s).glyphs = s.glyphs ∧ (reportLockChange s).expired = s.expired ∧ (reportLockChange s).commandQueue = s.commandQueue
    ∧ (reportLockChange s).settings = s.settings ∧ (reportLockChange s).rx = s.rx
    ∧ (reportLockChange s).comp = s.comp ∧ (reportLockChange s).tx = s.tx ∧ (reportLockChange s).linkOut = s.linkOut ∧ (reportLockChange s).pending = s.pending := by
  unfold reportLockChange
  split <;> simp

@[simp] theorem offerSessionEnded_frame (p : Byte) (s : State) :
    (offerSessionEnded p s).resetn = s.resetn ∧ (offerSessionEnded p s).unitAddress = s.unitAddress
    ∧ (offerSessionEnded p s).scene = s.scene ∧ (offerSessionEnded p s).cells = s.cells
    ∧ (offerSessionEnded p s).glyphs = s.glyphs ∧ (offerSessionEnded p s).expired = s.expired ∧ (offerSessionEnded p s).commandQueue = s.commandQueue
    ∧ (offerSessionEnded p s).settings = s.settings ∧ (offerSessionEnded p s).rx = s.rx
    ∧ (offerSessionEnded p s).comp = s.comp ∧ (offerSessionEnded p s).tx = s.tx
    ∧ (offerSessionEnded p s).linkOut = s.linkOut
    ∧ (offerSessionEnded p s).pending = s.pending := by
  unfold offerSessionEnded
  split <;> simp

@[simp] theorem endSession_frame (e : Fin 4) (s : State) :
    (endSession e s).resetn = s.resetn ∧ (endSession e s).unitAddress = s.unitAddress
    ∧ (endSession e s).cells = s.cells ∧ (endSession e s).glyphs = s.glyphs ∧ (endSession e s).expired = s.expired
    ∧ (endSession e s).replyQueue = s.replyQueue ∧ (endSession e s).settings = s.settings
    ∧ (endSession e s).rx = s.rx ∧ (endSession e s).comp = s.comp ∧ (endSession e s).tx = s.tx
    ∧ (endSession e s).linkOut = s.linkOut ∧ (endSession e s).draws = s.draws ∧ (endSession e s).pending = s.pending := by
  simp [endSession, teardownRequest]

@[simp] theorem commitStage_frame (advanced : Bool) (s : State) :
    (commitStage advanced s).resetn = s.resetn ∧ (commitStage advanced s).unitAddress = s.unitAddress
    ∧ (commitStage advanced s).cells = s.cells ∧ (commitStage advanced s).glyphs = s.glyphs
    ∧ (commitStage advanced s).expired = s.expired
    ∧ (commitStage advanced s).commandQueue = s.commandQueue ∧ (commitStage advanced s).settings = s.settings
    ∧ (commitStage advanced s).rx = s.rx ∧ (commitStage advanced s).comp = s.comp
    ∧ (commitStage advanced s).tx = s.tx ∧ (commitStage advanced s).linkOut = s.linkOut ∧ (commitStage advanced s).pending = s.pending := by
  unfold commitStage
  dsimp only
  split_ifs <;> (cases s.scene.commit.issuer <;> simp)

@[simp] theorem finishScene_frame (s : State) :
    (finishScene s).resetn = s.resetn ∧ (finishScene s).unitAddress = s.unitAddress
    ∧ (finishScene s).cells = s.cells ∧ (finishScene s).glyphs = s.glyphs ∧ (finishScene s).expired = s.expired ∧ (finishScene s).commandQueue = s.commandQueue
    ∧ (finishScene s).settings = s.settings ∧ (finishScene s).rx = s.rx ∧ (finishScene s).comp = s.comp
    ∧ (finishScene s).tx = s.tx ∧ (finishScene s).linkOut = s.linkOut
    ∧ (finishScene s).pending = s.pending := by
  unfold finishScene
  split <;> simp [teardownStage]

@[simp] theorem blinkCompare_frame (s : State) :
    (blinkCompare s).resetn = s.resetn ∧ (blinkCompare s).unitAddress = s.unitAddress
    ∧ (blinkCompare s).scene = s.scene ∧ (blinkCompare s).cells = s.cells ∧ (blinkCompare s).glyphs = s.glyphs
    ∧ (blinkCompare s).sessions = s.sessions ∧ (blinkCompare s).expired = s.expired
    ∧ (blinkCompare s).engine = s.engine ∧ (blinkCompare s).commandQueue = s.commandQueue
    ∧ (blinkCompare s).replyQueue = s.replyQueue ∧ (blinkCompare s).settings = s.settings
    ∧ (blinkCompare s).rx = s.rx ∧ (blinkCompare s).tx = s.tx ∧ (blinkCompare s).linkOut = s.linkOut
    ∧ (blinkCompare s).draws = s.draws ∧ (blinkCompare s).pending = s.pending := by
  unfold blinkCompare
  split_ifs <;> simp

@[simp] theorem expireEntry_frame (e : Fin 4) (s : State) :
    (expireEntry e s).resetn = s.resetn ∧ (expireEntry e s).unitAddress = s.unitAddress
    ∧ (expireEntry e s).cells = s.cells ∧ (expireEntry e s).glyphs = s.glyphs
    ∧ (expireEntry e s).replyQueue = s.replyQueue ∧ (expireEntry e s).settings = s.settings
    ∧ (expireEntry e s).rx = s.rx ∧ (expireEntry e s).comp = s.comp ∧ (expireEntry e s).tx = s.tx
    ∧ (expireEntry e s).linkOut = s.linkOut ∧ (expireEntry e s).draws = s.draws
    ∧ (expireEntry e s).pending = s.pending := by
  simp [expireEntry]

@[simp] theorem offerOwedNotices_frame (s : State) :
    (offerOwedNotices s).resetn = s.resetn ∧ (offerOwedNotices s).unitAddress = s.unitAddress
    ∧ (offerOwedNotices s).scene = s.scene ∧ (offerOwedNotices s).cells = s.cells
    ∧ (offerOwedNotices s).glyphs = s.glyphs
    ∧ (offerOwedNotices s).commandQueue = s.commandQueue ∧ (offerOwedNotices s).settings = s.settings
    ∧ (offerOwedNotices s).rx = s.rx ∧ (offerOwedNotices s).comp = s.comp ∧ (offerOwedNotices s).tx = s.tx
    ∧ (offerOwedNotices s).linkOut = s.linkOut
    ∧ (offerOwedNotices s).pending = s.pending := by
  exact ⟨foldl_keeps State.resetn _ (fun _ _ => by simp) _ _,
    foldl_keeps State.unitAddress _ (fun _ _ => by simp) _ _,
    foldl_keeps State.scene _ (fun _ _ => by simp) _ _,
    foldl_keeps State.cells _ (fun _ _ => by simp) _ _,
    foldl_keeps State.glyphs _ (fun _ _ => by simp) _ _,
    foldl_keeps State.commandQueue _ (fun _ _ => by simp) _ _,
    foldl_keeps State.settings _ (fun _ _ => by simp) _ _,
    foldl_keeps State.rx _ (fun _ _ => by simp) _ _,
    foldl_keeps State.comp _ (fun _ _ => by simp) _ _,
    foldl_keeps State.tx _ (fun _ _ => by simp) _ _,
    foldl_keeps State.linkOut _ (fun _ _ => by simp) _ _,
    foldl_keeps State.pending _ (fun _ _ => by simp) _ _⟩

@[simp] theorem offerSome_frame (owed : List Byte) (s : State) :
    (offerSome owed s).resetn = s.resetn ∧ (offerSome owed s).unitAddress = s.unitAddress
    ∧ (offerSome owed s).scene = s.scene ∧ (offerSome owed s).cells = s.cells ∧ (offerSome owed s).glyphs = s.glyphs ∧ (offerSome owed s).commandQueue = s.commandQueue
    ∧ (offerSome owed s).settings = s.settings ∧ (offerSome owed s).rx = s.rx ∧ (offerSome owed s).comp = s.comp
    ∧ (offerSome owed s).tx = s.tx ∧ (offerSome owed s).linkOut = s.linkOut
    ∧ (offerSome owed s).pending = s.pending := by
  induction owed generalizing s with
  | nil => simp [offerSome]
  | cons p rest ih =>
    unfold offerSome
    dsimp only
    split_ifs
    · simp [ih]
    · simp

@[simp] theorem endExpired_frame (s : State) :
    (endExpired s).resetn = s.resetn ∧ (endExpired s).unitAddress = s.unitAddress ∧ (endExpired s).cells = s.cells
    ∧ (endExpired s).glyphs = s.glyphs ∧ (endExpired s).replyQueue = s.replyQueue
    ∧ (endExpired s).settings = s.settings ∧ (endExpired s).rx = s.rx ∧ (endExpired s).comp = s.comp
    ∧ (endExpired s).tx = s.tx ∧ (endExpired s).linkOut = s.linkOut ∧ (endExpired s).draws = s.draws
    ∧ (endExpired s).pending = s.pending := by
  exact ⟨foldl_keeps State.resetn _ (fun _ _ => by simp) _ _,
    foldl_keeps State.unitAddress _ (fun _ _ => by simp) _ _,
    foldl_keeps State.cells _ (fun _ _ => by simp) _ _,
    foldl_keeps State.glyphs _ (fun _ _ => by simp) _ _,
    foldl_keeps State.replyQueue _ (fun _ _ => by simp) _ _,
    foldl_keeps State.settings _ (fun _ _ => by simp) _ _,
    foldl_keeps State.rx _ (fun _ _ => by simp) _ _,
    foldl_keeps State.comp _ (fun _ _ => by simp) _ _,
    foldl_keeps State.tx _ (fun _ _ => by simp) _ _,
    foldl_keeps State.linkOut _ (fun _ _ => by simp) _ _,
    foldl_keeps State.draws _ (fun _ _ => by simp) _ _,
    foldl_keeps State.pending _ (fun _ _ => by simp) _ _⟩

@[simp] theorem endSome_frame (due : List (Fin 4)) (s : State) :
    (endSome due s).resetn = s.resetn ∧ (endSome due s).unitAddress = s.unitAddress ∧ (endSome due s).cells = s.cells
    ∧ (endSome due s).glyphs = s.glyphs ∧ (endSome due s).replyQueue = s.replyQueue
    ∧ (endSome due s).settings = s.settings ∧ (endSome due s).rx = s.rx ∧ (endSome due s).comp = s.comp
    ∧ (endSome due s).tx = s.tx ∧ (endSome due s).linkOut = s.linkOut ∧ (endSome due s).pending = s.pending := by
  induction due generalizing s with
  | nil => simp [endSome]
  | cons e rest ih =>
    unfold endSome
    dsimp only
    split_ifs <;> simp [ih]

@[simp] theorem endsBeforeStore_frame (s : State) :
    (endsBeforeStore s).resetn = s.resetn ∧ (endsBeforeStore s).unitAddress = s.unitAddress
    ∧ (endsBeforeStore s).cells = s.cells ∧ (endsBeforeStore s).glyphs = s.glyphs
    ∧ (endsBeforeStore s).replyQueue = s.replyQueue ∧ (endsBeforeStore s).settings = s.settings
    ∧ (endsBeforeStore s).rx = s.rx ∧ (endsBeforeStore s).comp = s.comp ∧ (endsBeforeStore s).tx = s.tx
    ∧ (endsBeforeStore s).linkOut = s.linkOut ∧ (endsBeforeStore s).pending = s.pending := by
  unfold endsBeforeStore
  split <;> simp

@[simp] theorem settle_frame (s : State) :
    s.settle.resetn = s.resetn ∧ s.settle.unitAddress = s.unitAddress ∧ s.settle.cells = s.cells
    ∧ s.settle.glyphs = s.glyphs ∧ s.settle.settings = s.settings ∧ s.settle.rx = s.rx ∧ s.settle.tx = s.tx
    ∧ s.settle.linkOut = s.linkOut ∧ s.settle.pending = s.pending := by
  unfold State.settle
  dsimp only
  split_ifs <;> simp

@[simp] theorem settleSome_frame (s : State) :
    (settleSome s).resetn = s.resetn ∧ (settleSome s).unitAddress = s.unitAddress ∧ (settleSome s).cells = s.cells
    ∧ (settleSome s).glyphs = s.glyphs ∧ (settleSome s).settings = s.settings ∧ (settleSome s).rx = s.rx
    ∧ (settleSome s).tx = s.tx ∧ (settleSome s).linkOut = s.linkOut ∧ (settleSome s).pending = s.pending := by
  unfold settleSome
  dsimp only
  split_ifs <;> simp

@[simp] theorem ready_frame (s : State) :
    s.ready.resetn = s.resetn ∧ s.ready.unitAddress = s.unitAddress ∧ s.ready.cells = s.cells
    ∧ s.ready.glyphs = s.glyphs ∧ s.ready.settings = s.settings ∧ s.ready.rx = s.rx ∧ s.ready.tx = s.tx
    ∧ s.ready.pending = s.pending := by
  simp [State.ready]

@[simp] theorem ready_linkOut (s : State) : s.ready.linkOut = [] := by simp [State.ready]

@[simp] theorem closeGap_frame (s : State) :
    (closeGap s).resetn = s.resetn ∧ (closeGap s).unitAddress = s.unitAddress ∧ (closeGap s).scene = s.scene
    ∧ (closeGap s).cells = s.cells ∧ (closeGap s).glyphs = s.glyphs ∧ (closeGap s).sessions = s.sessions
    ∧ (closeGap s).expired = s.expired ∧ (closeGap s).commandQueue = s.commandQueue
    ∧ (closeGap s).settings = s.settings ∧ (closeGap s).rx = s.rx ∧ (closeGap s).comp = s.comp
    ∧ (closeGap s).draws = s.draws ∧ (closeGap s).pending = s.pending := by
  unfold closeGap wakeEngine
  dsimp only
  repeat' split
  all_goals simp

@[simp] theorem putSymbol_frame (sym : Symbol) (s : State) :
    (putSymbol sym s).resetn = s.resetn ∧ (putSymbol sym s).unitAddress = s.unitAddress
    ∧ (putSymbol sym s).scene = s.scene ∧ (putSymbol sym s).cells = s.cells ∧ (putSymbol sym s).glyphs = s.glyphs
    ∧ (putSymbol sym s).sessions = s.sessions ∧ (putSymbol sym s).expired = s.expired
    ∧ (putSymbol sym s).engine = s.engine ∧ (putSymbol sym s).commandQueue = s.commandQueue
    ∧ (putSymbol sym s).replyQueue = s.replyQueue ∧ (putSymbol sym s).settings = s.settings
    ∧ (putSymbol sym s).rx = s.rx ∧ (putSymbol sym s).comp = s.comp ∧ (putSymbol sym s).pending = s.pending := by
  unfold putSymbol
  dsimp only
  repeat' split
  all_goals simp

@[simp] theorem follow_frame (sym : Symbol) (tx : Transmitter) :
    (tx.follow sym).mode = tx.mode ∧ (tx.follow sym).gap = tx.gap ∧ (tx.follow sym).generator = tx.generator := by
  cases sym <;> simp [Transmitter.follow]

@[simp] theorem repeatSymbol_eq (sym : Symbol) (s : State) :
    repeatSymbol sym s = { s with linkOut := s.linkOut ++ [sym], tx := s.tx.follow sym } := rfl

@[simp] theorem endLineAndFrame_frame (s : State) :
    (endLineAndFrame s).resetn = s.resetn ∧ (endLineAndFrame s).unitAddress = s.unitAddress
    ∧ (endLineAndFrame s).scene = s.scene ∧ (endLineAndFrame s).cells = s.cells ∧ (endLineAndFrame s).glyphs = s.glyphs
    ∧ (endLineAndFrame s).sessions = s.sessions ∧ (endLineAndFrame s).expired = s.expired
    ∧ (endLineAndFrame s).commandQueue = s.commandQueue ∧ (endLineAndFrame s).settings = s.settings
    ∧ (endLineAndFrame s).rx = s.rx ∧ (endLineAndFrame s).comp = s.comp ∧ (endLineAndFrame s).pending = s.pending := by
  unfold endLineAndFrame
  dsimp only
  split_ifs <;> simp

@[simp] theorem takeFetch_frame (f : Fin 8 × RowState) (s : State) :
    (takeFetch f s).resetn = s.resetn ∧ (takeFetch f s).unitAddress = s.unitAddress
    ∧ (takeFetch f s).scene = s.scene ∧ (takeFetch f s).cells = s.cells ∧ (takeFetch f s).glyphs = s.glyphs
    ∧ (takeFetch f s).sessions = s.sessions ∧ (takeFetch f s).expired = s.expired
    ∧ (takeFetch f s).engine = s.engine ∧ (takeFetch f s).commandQueue = s.commandQueue
    ∧ (takeFetch f s).replyQueue = s.replyQueue ∧ (takeFetch f s).settings = s.settings ∧ (takeFetch f s).rx = s.rx
    ∧ (takeFetch f s).tx = s.tx ∧ (takeFetch f s).linkOut = s.linkOut ∧ (takeFetch f s).draws = s.draws
    ∧ (takeFetch f s).pending = s.pending := by
  unfold takeFetch
  split <;> simp

@[simp] theorem fetchAll_frame (s : State) :
    (fetchAll s).resetn = s.resetn ∧ (fetchAll s).unitAddress = s.unitAddress ∧ (fetchAll s).scene = s.scene
    ∧ (fetchAll s).cells = s.cells ∧ (fetchAll s).glyphs = s.glyphs ∧ (fetchAll s).sessions = s.sessions
    ∧ (fetchAll s).expired = s.expired ∧ (fetchAll s).engine = s.engine ∧ (fetchAll s).commandQueue = s.commandQueue
    ∧ (fetchAll s).replyQueue = s.replyQueue ∧ (fetchAll s).settings = s.settings ∧ (fetchAll s).rx = s.rx
    ∧ (fetchAll s).tx = s.tx ∧ (fetchAll s).linkOut = s.linkOut ∧ (fetchAll s).draws = s.draws
    ∧ (fetchAll s).pending = s.pending := by
  exact ⟨foldl_keeps State.resetn _ (fun _ _ => by simp) _ _,
    foldl_keeps State.unitAddress _ (fun _ _ => by simp) _ _,
    foldl_keeps State.scene _ (fun _ _ => by simp) _ _,
    foldl_keeps State.cells _ (fun _ _ => by simp) _ _,
    foldl_keeps State.glyphs _ (fun _ _ => by simp) _ _,
    foldl_keeps State.sessions _ (fun _ _ => by simp) _ _,
    foldl_keeps State.expired _ (fun _ _ => by simp) _ _,
    foldl_keeps State.engine _ (fun _ _ => by simp) _ _,
    foldl_keeps State.commandQueue _ (fun _ _ => by simp) _ _,
    foldl_keeps State.replyQueue _ (fun _ _ => by simp) _ _,
    foldl_keeps State.settings _ (fun _ _ => by simp) _ _,
    foldl_keeps State.rx _ (fun _ _ => by simp) _ _,
    foldl_keeps State.tx _ (fun _ _ => by simp) _ _,
    foldl_keeps State.linkOut _ (fun _ _ => by simp) _ _,
    foldl_keeps State.draws _ (fun _ _ => by simp) _ _,
    foldl_keeps State.pending _ (fun _ _ => by simp) _ _⟩

@[simp] theorem fetchOrKeep_frame (s : State) (f : Fin 8 × RowState) :
    (fetchOrKeep s f).resetn = s.resetn ∧ (fetchOrKeep s f).unitAddress = s.unitAddress
    ∧ (fetchOrKeep s f).scene = s.scene ∧ (fetchOrKeep s f).cells = s.cells ∧ (fetchOrKeep s f).glyphs = s.glyphs
    ∧ (fetchOrKeep s f).sessions = s.sessions ∧ (fetchOrKeep s f).expired = s.expired
    ∧ (fetchOrKeep s f).engine = s.engine ∧ (fetchOrKeep s f).commandQueue = s.commandQueue
    ∧ (fetchOrKeep s f).replyQueue = s.replyQueue ∧ (fetchOrKeep s f).settings = s.settings
    ∧ (fetchOrKeep s f).rx = s.rx ∧ (fetchOrKeep s f).tx = s.tx ∧ (fetchOrKeep s f).linkOut = s.linkOut
    ∧ (fetchOrKeep s f).pending = s.pending := by
  unfold fetchOrKeep
  dsimp only
  split_ifs <;> simp

@[simp] theorem fetchSome_frame (s : State) :
    (fetchSome s).resetn = s.resetn ∧ (fetchSome s).unitAddress = s.unitAddress ∧ (fetchSome s).scene = s.scene
    ∧ (fetchSome s).cells = s.cells ∧ (fetchSome s).glyphs = s.glyphs ∧ (fetchSome s).sessions = s.sessions
    ∧ (fetchSome s).expired = s.expired ∧ (fetchSome s).engine = s.engine
    ∧ (fetchSome s).commandQueue = s.commandQueue ∧ (fetchSome s).replyQueue = s.replyQueue
    ∧ (fetchSome s).settings = s.settings ∧ (fetchSome s).rx = s.rx ∧ (fetchSome s).tx = s.tx
    ∧ (fetchSome s).linkOut = s.linkOut ∧ (fetchSome s).pending = s.pending := by
  exact ⟨foldl_keeps State.resetn _ (fun _ _ => by simp) _ _,
    foldl_keeps State.unitAddress _ (fun _ _ => by simp) _ _,
    foldl_keeps State.scene _ (fun _ _ => by simp) _ _,
    foldl_keeps State.cells _ (fun _ _ => by simp) _ _,
    foldl_keeps State.glyphs _ (fun _ _ => by simp) _ _,
    foldl_keeps State.sessions _ (fun _ _ => by simp) _ _,
    foldl_keeps State.expired _ (fun _ _ => by simp) _ _,
    foldl_keeps State.engine _ (fun _ _ => by simp) _ _,
    foldl_keeps State.commandQueue _ (fun _ _ => by simp) _ _,
    foldl_keeps State.replyQueue _ (fun _ _ => by simp) _ _,
    foldl_keeps State.settings _ (fun _ _ => by simp) _ _,
    foldl_keeps State.rx _ (fun _ _ => by simp) _ _,
    foldl_keeps State.tx _ (fun _ _ => by simp) _ _,
    foldl_keeps State.linkOut _ (fun _ _ => by simp) _ _,
    foldl_keeps State.pending _ (fun _ _ => by simp) _ _⟩

@[simp] theorem endPacket_frame (status : Status) (failed : Nat) (e : Fin 4) (x : Executing) (s : State) :
    (endPacket status failed e x s).resetn = s.resetn ∧ (endPacket status failed e x s).unitAddress = s.unitAddress
    ∧ (endPacket status failed e x s).scene = s.scene ∧ (endPacket status failed e x s).cells = s.cells
    ∧ (endPacket status failed e x s).glyphs = s.glyphs ∧ (endPacket status failed e x s).expired = s.expired
    ∧ (endPacket status failed e x s).commandQueue = s.commandQueue
    ∧ (endPacket status failed e x s).settings = s.settings ∧ (endPacket status failed e x s).rx = s.rx
    ∧ (endPacket status failed e x s).comp = s.comp ∧ (endPacket status failed e x s).tx = s.tx
    ∧ (endPacket status failed e x s).linkOut = s.linkOut ∧ (endPacket status failed e x s).draws = s.draws
    ∧ (endPacket status failed e x s).pending = s.pending := by
  simp [endPacket]

@[simp] theorem carryOn_frame (e : Fin 4) (x : Executing) (s : State) :
    (carryOn e x s).resetn = s.resetn ∧ (carryOn e x s).unitAddress = s.unitAddress
    ∧ (carryOn e x s).scene = s.scene ∧ (carryOn e x s).cells = s.cells ∧ (carryOn e x s).glyphs = s.glyphs
    ∧ (carryOn e x s).expired = s.expired ∧ (carryOn e x s).commandQueue = s.commandQueue
    ∧ (carryOn e x s).settings = s.settings ∧ (carryOn e x s).rx = s.rx ∧ (carryOn e x s).comp = s.comp
    ∧ (carryOn e x s).tx = s.tx ∧ (carryOn e x s).linkOut = s.linkOut ∧ (carryOn e x s).draws = s.draws
    ∧ (carryOn e x s).pending = s.pending := by
  unfold carryOn refusePacket
  split
  · simp
  · split_ifs <;> simp

@[simp] theorem carryOnBroadcast_frame (x : Executing) (s : State) :
    (carryOnBroadcast x s).resetn = s.resetn ∧ (carryOnBroadcast x s).unitAddress = s.unitAddress
    ∧ (carryOnBroadcast x s).scene = s.scene ∧ (carryOnBroadcast x s).cells = s.cells
    ∧ (carryOnBroadcast x s).glyphs = s.glyphs ∧ (carryOnBroadcast x s).sessions = s.sessions
    ∧ (carryOnBroadcast x s).expired = s.expired ∧ (carryOnBroadcast x s).commandQueue = s.commandQueue
    ∧ (carryOnBroadcast x s).replyQueue = s.replyQueue ∧ (carryOnBroadcast x s).settings = s.settings
    ∧ (carryOnBroadcast x s).rx = s.rx ∧ (carryOnBroadcast x s).comp = s.comp ∧ (carryOnBroadcast x s).tx = s.tx
    ∧ (carryOnBroadcast x s).linkOut = s.linkOut ∧ (carryOnBroadcast x s).draws = s.draws
    ∧ (carryOnBroadcast x s).pending = s.pending := by
  unfold carryOnBroadcast
  split
  · split_ifs <;> simp
  · simp

end Sys2Proof.Machine
end

