-- ==== Sys2Proof/Laws/Store.lean ====
section
/-! SUPPORT. The sparse stores: reading after a write, and the canonical form that every store operation keeps. -/

namespace Sys2Proof.Machine

/-! ### Reading after a write -/

theorem Store.read_write_same {α : Type} [DecidableEq α] (d : α) (m : Store α) (a : Nat) (v : α)
    (h : m.Pairwise (fun p q => p.1 < q.1)) : Store.read d (Store.write d m a v) a = v := by
  induction m with
  | nil => by_cases hv : v = d <;> simp [Store.write, Store.read, hv]
  | cons p rest ih =>
    obtain ⟨k, w⟩ := p
    obtain ⟨hlt, hrest⟩ := List.pairwise_cons.1 h
    have absent : ∀ b, b ≤ k → Store.read d rest b = d := by
      intro b hb
      clear ih
      induction rest with
      | nil => rfl
      | cons q rest ih =>
        have hq : k < q.1 := hlt q (by simp)
        have hne : q.1 ≠ b := by omega
        simp only [Store.read, if_neg hne]
        exact ih (List.pairwise_cons.2 ⟨fun x hx => hlt x (by simp [hx]), (List.pairwise_cons.1 hrest).2⟩)
          (fun x hx => hlt x (by simp [hx])) (List.pairwise_cons.1 hrest).2
    rcases Nat.lt_trichotomy a k with hak | hak | hak
    · by_cases hv : v = d
      · have hka : ¬ k = a := by omega
        simp [Store.write, hak, hv, Store.read, hka, absent a (by omega)]
      · simp [Store.write, hak, hv, Store.read]
    · subst hak
      by_cases hv : v = d
      · simp [Store.write, hv, absent a (Nat.le_refl a)]
      · simp [Store.write, hv, Store.read]
    · have h1 : ¬ a < k := by omega
      have h2 : ¬ a = k := by omega
      have h3 : ¬ k = a := by omega
      simp [Store.write, h1, h2, h3, Store.read, ih hrest]

theorem Store.read_write_other {α : Type} [DecidableEq α] (d : α) (m : Store α) (a b : Nat) (v : α) (hab : b ≠ a) :
    Store.read d (Store.write d m a v) b = Store.read d m b := by
  have hba : ¬ a = b := fun h => hab h.symm
  induction m with
  | nil => by_cases hv : v = d <;> simp [Store.write, Store.read, hv, hba]
  | cons p rest ih =>
    obtain ⟨k, w⟩ := p
    by_cases h1 : a < k
    · by_cases hv : v = d <;> simp [Store.write, h1, hv, Store.read, hba]
    · by_cases h2 : a = k
      · subst h2
        by_cases hv : v = d <;> simp [Store.write, hv, Store.read, hba]
      · simp [Store.write, h1, h2, Store.read, ih]

/-! ### The canonical form -/

/-- A write adds no key but the one written. -/
theorem Store.mem_write {α : Type} [DecidableEq α] (d : α) (m : Store α) (a : Nat) (v : α) (p : Nat × α)
    (hp : p ∈ Store.write d m a v) : p ∈ m ∨ (p = (a, v) ∧ v ≠ d) := by
  induction m with
  | nil => by_cases hv : v = d <;> simp_all [Store.write]
  | cons q rest ih =>
    obtain ⟨k, w⟩ := q
    by_cases h1 : a < k
    · by_cases hv : v = d <;> simp_all [Store.write] <;> tauto
    · by_cases h2 : a = k
      · by_cases hv : v = d <;> simp_all [Store.write] <;> tauto
      · simp only [Store.write, if_neg h1, if_neg h2, List.mem_cons] at hp
        rcases hp with hp | hp
        · exact Or.inl (by simp [hp])
        · rcases ih hp with h | h
          · exact Or.inl (by simp [h])
          · exact Or.inr h

theorem Store.wf_write {α : Type} [DecidableEq α] (d : α) (bound : Nat) (m : Store α) (a : Nat) (v : α)
    (h : Store.wf d bound m) (ha : a < bound) : Store.wf d bound (Store.write d m a v) := by
  refine ⟨?_, ?_⟩
  · have hs := h.1
    clear h ha
    induction m with
    | nil => by_cases hv : v = d <;> simp [Store.write, hv]
    | cons q rest ih =>
      obtain ⟨k, w⟩ := q
      obtain ⟨hlt, hrest⟩ := List.pairwise_cons.1 hs
      by_cases h1 : a < k
      · by_cases hv : v = d
        · simpa [Store.write, h1, hv] using hs
        · simp only [Store.write, if_pos h1, if_neg hv]
          refine List.pairwise_cons.2 ⟨?_, hs⟩
          intro p hp
          rcases List.mem_cons.1 hp with rfl | hp
          · exact h1
          · exact Nat.lt_trans h1 (hlt p hp)
      · by_cases h2 : a = k
        · subst h2
          by_cases hv : v = d
          · simpa [Store.write, hv] using hrest
          · simpa [Store.write, hv] using List.pairwise_cons.2 ⟨hlt, hrest⟩
        · simp only [Store.write, if_neg h1, if_neg h2]
          refine List.pairwise_cons.2 ⟨?_, ih hrest⟩
          intro p hp
          rcases Store.mem_write d rest a v p hp with hp | ⟨rfl, _⟩
          · exact hlt p hp
          · show k < a
            omega
  · intro p hp
    rcases Store.mem_write d m a v p hp with hp | ⟨rfl, hv⟩
    · exact h.2 p hp
    · exact ⟨ha, hv⟩

/-! ### Cells (R46) -/

theorem cellIndex_lt (n : Nat) : cellIndex n < 16384 := Nat.mod_lt n (by decide)

theorem setCell_wf (m : Store Cell) (i : Nat) (c : Cell) (h : Store.wf Cell.clear 16384 m) :
    Store.wf Cell.clear 16384 (setCell m i c) := Store.wf_write _ _ _ _ _ h (cellIndex_lt i)

theorem cellAt_setCell_same (m : Store Cell) (i : Nat) (c : Cell) (h : Store.wf Cell.clear 16384 m) :
    cellAt (setCell m i c) i = c := Store.read_write_same _ _ _ _ h.1

theorem cellAt_setCell_other (m : Store Cell) (i j : Nat) (c : Cell) (h : cellIndex j ≠ cellIndex i) :
    cellAt (setCell m i c) j = cellAt m j := Store.read_write_other _ _ _ _ _ h

theorem writeRun_wf (mask : BitVec 4) (cs : List Cell) : ∀ (i : Nat) (m : Store Cell),
    Store.wf Cell.clear 16384 m → Store.wf Cell.clear 16384 (writeRun mask i cs m) := by
  induction cs with
  | nil => intro i m h; exact h
  | cons c rest ih => intro i m h; exact ih _ _ (setCell_wf _ _ _ h)

theorem copyStep_wf (sb sp db dp width height k : Nat) (m : Store Cell) (h : Store.wf Cell.clear 16384 m) :
    Store.wf Cell.clear 16384 (copyStep sb sp db dp width height k m) := setCell_wf _ _ _ h

/-! ### Glyph rows (R65) -/

theorem glyphKey_lt (bank code row : Nat) (hb : bank ≤ 7) (hc : code ≤ 255) (hr : row ≤ 31) :
    glyphKey bank code row < 65536 := by
  unfold glyphKey
  omega

theorem setGlyphRow_wf (m : Store Word) (bank code row : Nat) (w : Word) (hb : bank ≤ 7) (hc : code ≤ 255)
    (hr : row ≤ 31) (h : Store.wf (0 : Word) 65536 m) : Store.wf (0 : Word) 65536 (setGlyphRow m bank code row w) :=
  Store.wf_write _ _ _ _ _ h (glyphKey_lt bank code row hb hc hr)

theorem glyphRow_setGlyphRow_same (m : Store Word) (bank code row : Nat) (w : Word) (h : Store.wf (0 : Word) 65536 m) :
    glyphRow (setGlyphRow m bank code row w) bank code row = w := Store.read_write_same _ _ _ _ h.1

theorem glyphRow_setGlyphRow_other (m : Store Word) (bank code row bank' code' row' : Nat) (w : Word)
    (h : glyphKey bank' code' row' ≠ glyphKey bank code row) :
    glyphRow (setGlyphRow m bank code row w) bank' code' row' = glyphRow m bank' code' row' :=
  Store.read_write_other _ _ _ _ _ h

theorem writeGlyphRun_wf (op : GlyphOp) (mask : Word) (bank code : Nat) (hb : bank ≤ 7) (hc : code ≤ 255)
    (rows : List Word) : ∀ (first : Nat) (m : Store Word), first + rows.length ≤ 32 →
    Store.wf (0 : Word) 65536 m → Store.wf (0 : Word) 65536 (writeGlyphRun op mask bank code first rows m) := by
  induction rows with
  | nil => intro first m _ h; exact h
  | cons d rest ih =>
    intro first m hlen h
    simp only [List.length_cons] at hlen
    exact ih _ _ (by omega) (setGlyphRow_wf _ _ _ _ _ hb hc (by omega) h)

theorem clearGlyph_wf (bank code : Nat) (hb : bank ≤ 7) (hc : code ≤ 255) (m : Store Word)
    (h : Store.wf (0 : Word) 65536 m) : Store.wf (0 : Word) 65536 (clearGlyph bank code m) := by
  unfold clearGlyph
  have hrow : ∀ row ∈ List.range 32, row ≤ 31 := by
    intro row hr
    have := List.mem_range.1 hr
    omega
  generalize List.range 32 = rows at hrow
  induction rows generalizing m with
  | nil => exact h
  | cons r rest ih =>
    exact ih _ (setGlyphRow_wf _ _ _ _ _ hb hc (hrow r (by simp)) h) (fun x hx => hrow x (by simp [hx]))

end Sys2Proof.Machine
end

