-- ==== Sys2Proof/Laws/Ops.lean ====
section
/-! SUPPORT. One spec lemma per shared operation: what it answers where the state it finds allows only one answer, or everything it
can do. -/

namespace Sys2Proof.Machine

/-! ### A settled state -/

theorem settle_of_settled (s : State) (h : s.settled) : s.settle = s := by
  obtain ⟨hstage, hends, howed, hblink⟩ := h
  simp [State.settle, State.expiryOwed, hends, howed, finishScene, hstage, blinkCompare, hblink]

theorem settled_quiet (s : State) (h : s.settled) : s.quiet.settled := h

theorem ready_of_settled (s : State) (h : s.settled) : s.ready = s.quiet := settle_of_settled s.quiet h

theorem quiet_session (s : State) (e : Fin 4) : s.quiet.session e = s.session e := rfl

/-! ### Commands of the packet in execution -/

theorem withCommand_of_stands (code : Byte) (k : Fin 4 → Executing → Option (List Byte) → State → State) (s : State)
    (e : Fin 4) (x : Executing) (hs : s.settled) (he : s.engine = .executing x) (hp : x.packet.session = some e)
    (hl : x.long = none) (hc : x.rest.head? = some code) :
    withCommand code k s = k e x (operandsOf x.rest) s.quiet := by
  simp [withCommand, ready_of_settled s hs, he, hp, hl, hc]

theorem runCommand_of_standsAt (code : Byte) (f : Fin 4 → Executing → List Byte → State → Verdict) (s : State)
    (e : Fin 4) (x : Executing) (ops : List Byte) (h : s.standsAt code e x ops) :
    runCommand code f s = conclude e x s.quiet (f e x ops s.quiet) := by
  obtain ⟨hs, he, hp, hl, hc, ho⟩ := h
  simp [runCommand, withCommand_of_stands code _ s e x hs he hp hl hc, ho]

theorem withCommand_of_not_executing (code : Byte) (k : Fin 4 → Executing → Option (List Byte) → State → State)
    (s : State) (h : ∀ x, s.ready.engine ≠ .executing x) : withCommand code k s = s.ready := by
  unfold withCommand
  dsimp only
  split
  · next x hx => exact absurd hx (h x)
  · rfl

theorem conclude_done (e : Fin 4) (x : Executing) (s t : State) (data : List Byte) :
    conclude e x s (.done t data) = carryOn e (x.after data) t := rfl

theorem conclude_refuse (e : Fin 4) (x : Executing) (s : State) (status : Status) :
    conclude e x s (.refuse status) = refusePacket status e x s := rfl

theorem conclude_long (e : Fin 4) (x : Executing) (s t : State) (c : LongCommand) :
    conclude e x s (.long t c) = { t with engine := .executing { x with long := some c } } := rfl

/-! ### The checks -/

theorem withWindow_of_mayEdit (e : Fin 4) (slot : Fin 8) (s : State) (r : WindowRecord) (k : WindowRecord → Verdict)
    (h : s.mayEdit e slot r) : withWindow e slot s k = k r := by
  obtain ⟨hr, ho, hp⟩ := h
  have hown : ¬ ((s.session e).role = .client ∧ r.owner ≠ e) := by
    rintro ⟨hc, hne⟩
    rcases ho with ho | ho
    · rw [ho] at hc
      cases hc
    · exact hne ho
  simp [withWindow, hr, if_neg hown, unsealed, hp]

theorem withinExtents_of_mayWrite (e : Fin 4) (s : State) (targets : List Nat) (k : Verdict)
    (h : s.mayWrite e targets) : withinExtents e s targets k = k := by
  unfold withinExtents
  rw [if_neg]
  rintro ⟨hc, hall⟩
  rcases h with h | h
  · rw [h] at hc
    cases hc
  · exact hall (List.all_eq_true.2 h)

theorem controlOnly_of_control (e : Fin 4) (s : State) (k : Verdict) (h : (s.session e).role = .control) :
    controlOnly e s k = k := by simp [controlOnly, h]

theorem unsealed_of_open (s : State) (k : Verdict) (h : s.scene.commit.pending = false) : unsealed s k = k := by
  simp [unsealed, h]

theorem read_of_room (x : Executing) (s : State) (data : List Byte) (h : x.hasRoom data.length) :
    Verdict.read x s data = .done s data := if_pos h

/-! ### Notices (R159, R161) -/

theorem seeksLastEntry_iff (s : State) : s.seeksLastEntry = true ↔ s.contested := by
  unfold State.seeksLastEntry State.contested State.testsSession
  have hcap : Config.replyQueueCapacity = 8 := rfl
  rw [hcap]
  constructor
  · intro h
    simp only [Bool.and_eq_true, decide_eq_true_eq] at h
    obtain ⟨⟨he, hq⟩, hl⟩ := h
    have hres : s.reservations = 0 := by simp [State.reservations, he]
    cases hc : s.commandQueue with
    | nil => simp [hc] at hq
    | cons p rest =>
      refine ⟨⟨he, p, rest, rfl, ?_⟩, by omega⟩
      intro hn
      simp [hc, hn] at hq
  · rintro ⟨⟨he, p, rest, hc, hn⟩, hl⟩
    have hres : s.reservations = 0 := by simp [State.reservations, he]
    obtain ⟨e, hp⟩ := Option.ne_none_iff_exists'.1 hn
    simp [he, hc, hp, hres, hl]

/-- Everything a contest can do: nothing, or, where the engine seeks the last entry too, leave it or reserve it. -/
theorem contestEntry_cases (s : State) :
    (¬ s.contested ∧ contestEntry s = s)
    ∨ (s.contested ∧ (contestEntry s = { s with draws := s.draws + 1 }
        ∨ contestEntry s = { s with engine := .reserved, draws := s.draws + 1 })) := by
  by_cases h : s.contested
  · have hs := (seeksLastEntry_iff s).2 h
    refine Or.inr ⟨h, ?_⟩
    cases hd : Config.freeChoice s.draws
    · exact Or.inl (by simp [contestEntry, hs, State.draw, hd])
    · exact Or.inr (by simp [contestEntry, hs, State.draw, hd])
  · have hs : s.seeksLastEntry ≠ true := fun hs => h ((seeksLastEntry_iff s).1 hs)
    exact Or.inl ⟨h, by simp [contestEntry, hs]⟩

theorem contestEntry_quiet (s : State) (h : ¬ s.contested) : contestEntry s = s := by
  rcases contestEntry_cases s with ⟨_, hc⟩ | ⟨hc, _⟩
  · exact hc
  · exact absurd hc h

theorem offerNotice_joins (e : Fin 4) (p : List Byte) (s : State) (ho : (s.session e).isOpen = true)
    (hc : ¬ s.contested) (hr : s.replyRoom = true) :
    offerNotice e p s = s.joinReplies ⟨.notice, (s.session e).peer, 0, p⟩ := by
  simp [offerNotice, ho, contestEntry_quiet s hc, hr]

theorem offerNotice_lost (e : Fin 4) (p : List Byte) (s : State) (ho : (s.session e).isOpen = true)
    (hr : s.replyRoom = false) :
    offerNotice e p s = s.setSession e { s.session e with noticeLost := true } := by
  have hc : ¬ s.contested := by
    rintro ⟨⟨he, _⟩, hl⟩
    have hcap : Config.replyQueueCapacity = 8 := rfl
    simp [State.replyRoom, State.reservations, he, hl, hcap] at hr
  simp [offerNotice, ho, contestEntry_quiet s hc, hr]

theorem offerNotice_closed (e : Fin 4) (p : List Byte) (s : State) (ho : (s.session e).isOpen = false) :
    offerNotice e p s = s := by
  simp [offerNotice, ho]

/-- The entry that the engine reserves first was free and unreserved (R162). -/
theorem contestEntry_bound (s : State) (h : s.replyQueue.length + s.reservations ≤ 8) :
    (contestEntry s).replyQueue.length + (contestEntry s).reservations ≤ 8 := by
  rcases contestEntry_cases s with ⟨_, hc⟩ | ⟨⟨_, hl⟩, hc | hc⟩
  · rw [hc]
    exact h
  · rw [hc]
    exact h
  · rw [hc]
    change s.replyQueue.length + 1 ≤ 8
    omega

/-- A notice takes a Reply Queue entry only while one is free and unreserved (R162). -/
theorem offerNotice_bound (e : Fin 4) (p : List Byte) (s : State)
    (h : s.replyQueue.length + s.reservations ≤ 8) :
    (offerNotice e p s).replyQueue.length + (offerNotice e p s).reservations ≤ 8 := by
  have hb := contestEntry_bound s h
  unfold offerNotice
  dsimp only
  split_ifs with ho hr
  · have hroom : (contestEntry s).replyQueue.length + (contestEntry s).reservations < 8 := of_decide_eq_true hr
    have hres (o : Outgoing) : ((contestEntry s).joinReplies o).reservations = (contestEntry s).reservations := rfl
    rw [hres, joinReplies_replyQueue, List.length_append]
    simp only [List.length_singleton]
    omega
  · exact hb
  · exact h

/-- Everything the offer of a notice to an OPEN entry can do (R159, R161). -/
theorem offerNotice_offered (e : Fin 4) (p : List Byte) (s : State) (ho : (s.session e).isOpen = true) :
    noticeOffered s (offerNotice e p s) e p := by
  have hdrop (u : State) (hq : u.replyQueue = s.replyQueue) (hs : u.sessions = s.sessions) :
      noticeDropped s (u.setSession e { u.session e with noticeLost := true }) e := by
    have hses (a : Fin 4) : u.session a = s.session a := by simp [State.session, hs]
    refine ⟨by simp [hq], ?_, fun a ha => ?_⟩
    · simp [State.session, State.setSession, hs]
    · have hne : e.1 ≠ a.1 := fun h => ha (Fin.ext h.symm)
      simp [State.session, State.setSession, hs, hne]
  constructor
  · intro hroom
    rcases contestEntry_cases s with ⟨hn, _⟩ | ⟨hcon, hc | hc⟩
    · left
      have hr : s.replyRoom = true := decide_eq_true hroom
      rw [offerNotice_joins e p s ho hn hr]
      simp
    · left
      have hr : State.replyRoom { s with draws := s.draws + 1 } = true := decide_eq_true hroom
      simp only [offerNotice, ho, hc, hr, if_true]
      exact ⟨rfl, rfl, rfl⟩
    · right
      obtain ⟨⟨he, hq⟩, hl⟩ := hcon
      have hr : State.replyRoom { s with engine := .reserved, draws := s.draws + 1 } = false := by
        simp [State.replyRoom, State.reservations, hl, Config.replyQueueCapacity]
      refine ⟨⟨⟨he, hq⟩, hl⟩, ?_, ?_⟩
      · simp only [offerNotice, ho, hc, hr, if_true, Bool.false_eq_true, if_false]
        exact hdrop _ rfl rfl
      · simp only [offerNotice, ho, hc, hr, if_true, Bool.false_eq_true, if_false]
        rfl
  · intro hroom
    have hr : s.replyRoom = false := decide_eq_false hroom
    rw [offerNotice_lost e p s ho hr]
    exact ⟨hdrop s rfl rfl, rfl⟩

end Sys2Proof.Machine
end

