-- ==== Sys2Proof/WellFormed.lean ====
section
/-! DEFINITION. Well-formed commands. The one operand whose type admits more than the link can carry is the line number
of an LS: Table 32 gives it the range 0-4095 (log entry 27). -/

namespace Sys2Proof

/-- Table 32: an LS carries a line number 0-4095. Every other operand fills its type. -/
def Instr.wellFormed : Instr → Bool
  | .lineStart n => decide (n ≤ 4095)
  | _ => true

end Sys2Proof
end

