-- ==== Sys2Proof/Laws/PerInstr.lean ====
section
/-! SUPPORT. The family LineRange, one lemma per constructor of Instr: a command is ill-formed exactly when it is an LS whose
line number passes 4095 (Table 32). -/

namespace Sys2Proof.Laws.LineRange

/-- The only ill-formed commands are the LS of a line above 4095. -/
def Statement (i : Instr) : Prop := i.wellFormed = false ↔ ∃ n, i = .lineStart n ∧ 4095 < n

/-- A command that is well-formed and no LS satisfies the statement. -/
theorem of_wellFormed (i : Instr) (h : i.wellFormed = true) (hne : ∀ n, i ≠ .lineStart n) : Statement i :=
  ⟨fun hf => absurd (h.symm.trans hf) (by decide), fun ⟨n, hn, _⟩ => absurd hn (hne n)⟩

theorem resetnAsserted : Statement .resetnAsserted := of_wellFormed _ rfl (fun _ h => by cases h)

theorem resetnReleased (straps : BitVec 4) : Statement (.resetnReleased straps) := of_wellFormed _ rfl (fun _ h => by cases h)

theorem initialisationSweepEnd : Statement .initialisationSweepEnd := of_wellFormed _ rfl (fun _ h => by cases h)

theorem frameStart : Statement .frameStart := of_wellFormed _ rfl (fun _ h => by cases h)

theorem lineStart (number : Nat) : Statement (.lineStart number) := by
  unfold Statement Instr.wellFormed
  constructor
  · intro h
    exact ⟨number, rfl, Nat.lt_of_not_le (of_decide_eq_false h)⟩
  · rintro ⟨n, hn, hlt⟩
    cases hn
    exact decide_eq_false (Nat.not_le_of_lt hlt)

theorem pixel (colour : RGB) : Statement (.pixel colour) := of_wellFormed _ rfl (fun _ h => by cases h)

theorem lineEnd : Statement .lineEnd := of_wellFormed _ rfl (fun _ h => by cases h)

theorem frameEnd : Statement .frameEnd := of_wellFormed _ rfl (fun _ h => by cases h)

theorem packetReceived (run : List Byte) : Statement (.packetReceived run) := of_wellFormed _ rfl (fun _ h => by cases h)

theorem watchdogExpiry : Statement .watchdogExpiry := of_wellFormed _ rfl (fun _ h => by cases h)

theorem generatedFrameStart : Statement .generatedFrameStart := of_wellFormed _ rfl (fun _ h => by cases h)

theorem generatedSymbol : Statement .generatedSymbol := of_wellFormed _ rfl (fun _ h => by cases h)

theorem relockSwitch : Statement .relockSwitch := of_wellFormed _ rfl (fun _ h => by cases h)

theorem applyTeardown : Statement .applyTeardown := of_wellFormed _ rfl (fun _ h => by cases h)

theorem applyCommit : Statement .applyCommit := of_wellFormed _ rfl (fun _ h => by cases h)

theorem blinkToggle : Statement .blinkToggle := of_wellFormed _ rfl (fun _ h => by cases h)

theorem sessionExpiry : Statement .sessionExpiry := of_wellFormed _ rfl (fun _ h => by cases h)

theorem takeHeadPacket : Statement .takeHeadPacket := of_wellFormed _ rfl (fun _ h => by cases h)

theorem cellStep : Statement .cellStep := of_wellFormed _ rfl (fun _ h => by cases h)

theorem glyphStep : Statement .glyphStep := of_wellFormed _ rfl (fun _ h => by cases h)

theorem closeSession : Statement .closeSession := of_wellFormed _ rfl (fun _ h => by cases h)

theorem keepalive : Statement .keepalive := of_wellFormed _ rfl (fun _ h => by cases h)

theorem identify : Statement .identify := of_wellFormed _ rfl (fun _ h => by cases h)

theorem readStatus : Statement .readStatus := of_wellFormed _ rfl (fun _ h => by cases h)

theorem clearCounters : Statement .clearCounters := of_wellFormed _ rfl (fun _ h => by cases h)

theorem deviceSettings : Statement .deviceSettings := of_wellFormed _ rfl (fun _ h => by cases h)

theorem resetDevice : Statement .resetDevice := of_wellFormed _ rfl (fun _ h => by cases h)

theorem claimWindow : Statement .claimWindow := of_wellFormed _ rfl (fun _ h => by cases h)

theorem releaseWindow : Statement .releaseWindow := of_wellFormed _ rfl (fun _ h => by cases h)

theorem setWindow : Statement .setWindow := of_wellFormed _ rfl (fun _ h => by cases h)

theorem moveWindow : Statement .moveWindow := of_wellFormed _ rfl (fun _ h => by cases h)

theorem setScroll : Statement .setScroll := of_wellFormed _ rfl (fun _ h => by cases h)

theorem setCursor : Statement .setCursor := of_wellFormed _ rfl (fun _ h => by cases h)

theorem setBorder : Statement .setBorder := of_wellFormed _ rfl (fun _ h => by cases h)

theorem setKey : Statement .setKey := of_wellFormed _ rfl (fun _ h => by cases h)

theorem setSplit : Statement .setSplit := of_wellFormed _ rfl (fun _ h => by cases h)

theorem clearPart : Statement .clearPart := of_wellFormed _ rfl (fun _ h => by cases h)

theorem showWindow : Statement .showWindow := of_wellFormed _ rfl (fun _ h => by cases h)

theorem hideWindow : Statement .hideWindow := of_wellFormed _ rfl (fun _ h => by cases h)

theorem readWindow : Statement .readWindow := of_wellFormed _ rfl (fun _ h => by cases h)

theorem readOrder : Statement .readOrder := of_wellFormed _ rfl (fun _ h => by cases h)

theorem writeCells : Statement .writeCells := of_wellFormed _ rfl (fun _ h => by cases h)

theorem fillCells : Statement .fillCells := of_wellFormed _ rfl (fun _ h => by cases h)

theorem copyCells : Statement .copyCells := of_wellFormed _ rfl (fun _ h => by cases h)

theorem readCells : Statement .readCells := of_wellFormed _ rfl (fun _ h => by cases h)

theorem findCells : Statement .findCells := of_wellFormed _ rfl (fun _ h => by cases h)

theorem writeGlyphRows : Statement .writeGlyphRows := of_wellFormed _ rfl (fun _ h => by cases h)

theorem clearBank : Statement .clearBank := of_wellFormed _ rfl (fun _ h => by cases h)

theorem readGlyph : Statement .readGlyph := of_wellFormed _ rfl (fun _ h => by cases h)

theorem setPalette : Statement .setPalette := of_wellFormed _ rfl (fun _ h => by cases h)

theorem setColours : Statement .setColours := of_wellFormed _ rfl (fun _ h => by cases h)

theorem setOptions : Statement .setOptions := of_wellFormed _ rfl (fun _ h => by cases h)

theorem readPalette : Statement .readPalette := of_wellFormed _ rfl (fun _ h => by cases h)

theorem readColours : Statement .readColours := of_wellFormed _ rfl (fun _ h => by cases h)

theorem commit : Statement .commit := of_wellFormed _ rfl (fun _ h => by cases h)

theorem discard : Statement .discard := of_wellFormed _ rfl (fun _ h => by cases h)

theorem syncCommit : Statement .syncCommit := of_wellFormed _ rfl (fun _ h => by cases h)

theorem openSessionCommand : Statement .openSessionCommand := of_wellFormed _ rfl (fun _ h => by cases h)

end Sys2Proof.Laws.LineRange
end

