-- ==== Sys2Proof/Tests/Slice0.lean ====
section
/-! SUPPORT. Tests of the VC7140 model: the smoke tests of well-formedness, the worked examples of the spec's tables on the
operations that compute them, one step of each family, and for every statement with hypotheses a state that meets them. -/

namespace Sys2Proof.Tests

set_option Elab.async false

open Sys2Proof Sys2Proof.Machine

/-! ### States to start from -/

def control : Session := ⟨true, 0x10, .control, 5, 4, none, false, 7, 600, false, false⟩

def client : Session := ⟨true, 0x21, .client, 9, 8, none, false, 3, 60, true, false⟩

/-- After the sweep, with a CONTROL session in entry 0 and a CLIENT session in entry 1. -/
def base : State :=
  { State.reset with
    resetn := false
    rx := { Receiver.reset with lock := .search }
    tx := { Transmitter.reset with mode := .pass }
    sessions := #v[control, client, Session.closed, Session.closed] }

/-- A packet of an entry about to execute its first command. -/
def packet (e : Fin 4) (payload : List Byte) : Executing := ⟨⟨some e, 9, payload⟩, 0, 0, [], none⟩

def running (e : Fin 4) (payload : List Byte) : State := { base with engine := .executing (packet e payload) }

/-- A packet with a long command in flight. -/
def stepping (e : Fin 4) (c : LongCommand) : State :=
  { base with engine := .executing { packet e [0x21, 0] with long := some c } }

def broadcast (payload : List Byte) : Executing := ⟨⟨none, 0, payload⟩, 0, 0, [], none⟩

/-- The default record of a claim, with a border, owned by entry `e`. -/
def record (e : Fin 4) : WindowRecord := { claimedRecord e with border := some ⟨2, 5⟩ }

/-- Slot 2 claimed by entry `e` in both scenes and shown in the live one. -/
def withSlot (e : Fin 4) (s : State) : State :=
  { s with scene := { s.scene with
    staged := { s.scene.staged with windows := s.scene.staged.windows.set 2 (some (record e)) }
    live := { s.scene.live with windows := s.scene.live.windows.set 2 (some (record e)), order := [2] } } }

def pendingCommit (s : State) : State :=
  { s with scene := { s.scene with commit := ⟨true, .next, 0, some 0⟩ } }

/-- The smallest geometry of the operating limits. -/
def small : Geometry := ⟨64, 32, 1, 34⟩

/-- LOCKED at `small`, composing, with the frame in hand at `pos`. -/
def locked (pos : FramePos) (s : State) : State :=
  { s with
    rx := { s.rx with lock := .locked, geometry := some small, watchdog := some 100, frame := ⟨true, pos, false⟩ }
    tx := { s.tx with mode := .compose } }

/-- A frame of `small` being drawn, at column `x` of active line `y`. -/
def drawingAt (x y : Nat) (s : State) : State :=
  let s := locked (.inFrame (y + 2) (some ⟨1 + y, x⟩)) s
  { s with comp := { s.comp with frame := .drawing, geometry := some small } }

def acquiring (m : Measure) (candidate : Option Geometry) : State :=
  { base with rx := { base.rx with lock := .acquire, tracker := ⟨.measuring m, candidate⟩ } }

/-- Both queues full. -/
def full : State :=
  { base with replyQueue := List.replicate 8 ⟨.reply, 0x10, 1, []⟩, commandQueue := List.replicate 4 ⟨none, 0, []⟩ }

/-- HOLDOVER at `small` with the generator at `pos`. -/
def generating (pos : GenPos) : State :=
  { base with
    rx := { base.rx with lock := .holdover, geometry := some small }
    tx := { base.tx with mode := .generate, generator := .running small pos 16667 } }

/-- The last free Reply Queue entry is sought by the engine, for a packet of entry 1. -/
def contesting (s : State) : State :=
  { s with
    commandQueue := [⟨some 1, 9, [0x03, 0]⟩], replyQueue := full.replyQueue.drop 1, engine := .testing }

/-- The run of bytes of a command packet to the unit address of `base`. -/
def commandRun (dest source seq : Byte) (payload : List Byte) : List Byte := packetBytes 0xC1 dest source seq payload

/-- What a row answers. -/
def after (c : Instr) (s : State) : State :=
  match exec c s with
  | .next t => t
  | _ => s

/-! ### Well-formed commands and words -/

theorem test_line_number_4096_refused : Instr.wellFormed (.lineStart 4096) = false := by decide +kernel

theorem test_line_number_4095_accepted : Instr.wellFormed (.lineStart 4095) = true := by decide +kernel

theorem test_no_word_spells_a_command : decodeTableWord 16 0xC101 = none := by decide +kernel

theorem test_fetch_word_changes_nothing : State.reset.withFetchWord 8 1 = State.reset := rfl

/-! ### The spec's worked examples -/

theorem test_check_word : checkWord [0x31, 0x32, 0x33, 0x34, 0x35, 0x36, 0x37, 0x38, 0x39] = 0x29B1 := by decide +kernel

/-- Table 6. -/
theorem test_due_near_the_wrap :
    commitDue .at 65531 65531 = true ∧ commitDue .at 2 1 = false ∧ commitDue .at 2 2 = true
    ∧ commitDue .at 32763 65531 = false ∧ commitDue .at 32763 32763 = true
    ∧ commitDue .at 32764 65531 = true ∧ commitDue .at 65000 65531 = true := by decide +kernel

/-- Table 12. -/
theorem test_placements :
    place 2 .front [] = [2] ∧ place 0 .back [2] = [2, 0] ∧ place 3 (.above 0) [2, 0] = [2, 3, 0]
    ∧ place 1 (.below 2) [2, 3, 0] = [2, 1, 3, 0] ∧ place 0 .front [2, 1, 3, 0] = [0, 2, 1, 3]
    ∧ place 2 (.above 3) [0, 2, 1, 3] = [0, 1, 2, 3]
    ∧ referenceShown (.below 1) [0, 2, 3] = false ∧ placementOf 2 2 2 = none := by decide +kernel

/-- Table 16, note 1: the third destination row receives what the first step put in its source. -/
theorem test_copy_across_the_wrap :
    let a : Cell := ⟨65, 1, 0, 0⟩
    let m := setCell (setCell [] 16380 a) 4 ⟨67, 1, 0, 0⟩
    let copied := [0, 4, 8].foldl (fun m k => copyStep 16380 4 4 4 4 3 k m) m
    cellAt copied 4 = a ∧ cellAt copied 8 = Cell.clear ∧ cellAt copied 12 = a := by decide +kernel

/-- Table 20 and its note 2. -/
theorem test_glyph_operations :
    glyphMerge .replace 0x00FF 0x0FF0 0x3C3C = 0x0F3C ∧ glyphMerge .and 0x00FF 0x0FF0 0x3C3C = 0x0F30
    ∧ glyphMerge .or 0x00FF 0x0FF0 0x3C3C = 0x0FFC ∧ glyphMerge .xor 0x00FF 0x0FF0 0x3C3C = 0x0FCC
    ∧ glyphMerge .xor 0xFF00 0x0FF0 0xFFFF = 0xF0F0 := by decide +kernel

/-- Table 22: the masked indices. -/
theorem test_index_mask : (199 &&& 127 : Byte) = 71 ∧ (130 &&& 127 : Byte) = 2 ∧ (133 &&& 127 : Byte) = 5 := by decide +kernel

/-- Table 23 and its note 2. -/
theorem test_blend_steps :
    blend 4 ⟨0, 0, 0⟩ ⟨200, 100, 0⟩ = ⟨100, 50, 0⟩ ∧ blend 6 ⟨255, 0, 0⟩ ⟨100, 50, 0⟩ = ⟨216, 12, 0⟩
    ∧ blend 4 ⟨0, 0, 0⟩ (blend 6 ⟨255, 0, 0⟩ ⟨200, 100, 0⟩) = ⟨120, 12, 0⟩ := by decide +kernel

/-- Table 24 and its note 2. -/
theorem test_key :
    let r : WindowRecord := { claimedRecord 0 with key := some ⟨⟨0, 0, 0⟩, ⟨240, 240, 240⟩, .isMatch⟩ }
    let n : WindowRecord := { claimedRecord 0 with key := some ⟨⟨0, 0, 0⟩, ⟨240, 240, 240⟩, .noMatch⟩ }
    keyPasses r ⟨12, 3, 0⟩ = true ∧ keyPasses r ⟨16, 16, 16⟩ = false ∧ keyPasses r ⟨8, 40, 2⟩ = false
    ∧ keyPasses n ⟨12, 3, 0⟩ = false ∧ keyPasses n ⟨8, 40, 2⟩ = true := by decide +kernel

/-- Table 27: frame start 3, where the period falls to 8, and frame start 14 before the period 12. -/
theorem test_blink :
    let at_ (counter period : Nat) : State :=
      { State.reset with
        scene := { SceneStore.reset with live := { Scene.reset with blinkPeriod := period } }
        comp := { Compositor.reset with blinkCounter := counter } }
    (after .blinkToggle (at_ 32 8)).comp.blinkCounter = 0 ∧ (after .blinkToggle (at_ 32 8)).comp.blinkOn = false
    ∧ (after .blinkToggle (at_ 11 12)).comp.blinkCounter = 11
    ∧ (after .blinkToggle (at_ 31 32)).comp.blinkOn = true := by decide +kernel

/-- Table 28. -/
theorem test_fetch_schedule :
    let r : WindowRecord := { claimedRecord 0 with
      y := 40, columns := 40, rows := 4, cellHeight := 8, pitch := 40, base := 1000, fine := 3, split := some ⟨3, 5000⟩ }
    fetchAt r 39 = none ∧ fetchAt r 40 = some ⟨.upper, 0, 1000⟩ ∧ fetchAt r 44 = none
    ∧ fetchAt r 45 = some ⟨.upper, 1, 1040⟩ ∧ fetchAt r 53 = some ⟨.upper, 2, 1080⟩
    ∧ fetchAt r 61 = some ⟨.upper, 3, 1120⟩ ∧ fetchAt r 64 = some ⟨.split, 3, 5000⟩ ∧ fetchAt r 72 = none := by decide +kernel

/-- Table 42: packet 9 is queued, packet 10 is lost at the full queue, and packet 9 again is in progress. -/
theorem test_sequences_under_load :
    let other : Packet := ⟨some 0, 1, []⟩
    let s : State := { base with commandQueue := [other, other, other] }
    let t := admitSequenced 1 9 [0x03, 0] s
    let u := admitSequenced 1 10 [0x03, 0] t
    t.commandQueue.length = 4 ∧ (t.session 1).nextSeq = 10 ∧ (t.session 1).inProgress = true
    ∧ u.commandQueue.length = 4 ∧ (u.session 1).overrun = true ∧ (u.session 1).nextSeq = 10
    ∧ (admitSequenced 1 9 [0x03, 0] u).commandQueue = u.commandQueue := by decide +kernel

/-! ### One step of each family -/

theorem test_step_takes_the_front_command :
    (match step { State.reset with pending := [.resetnReleased 5, .keepalive] } with
      | .next t => (t.unitAddress, t.resetn, t.pending)
      | _ => (0, true, [])) = (0x85, false, [.keepalive]) := by decide +kernel

theorem test_sweep_end_enters_search :
    (after .initialisationSweepEnd { State.reset with resetn := false }).rx.lock = .search := by decide +kernel

/-- CLAIM WINDOW takes slot 0 and answers it in the reply (R30, R165). -/
theorem test_claim_window :
    let t := after .claimWindow (running 1 [0x10, 0])
    t.scene.staged.windows[0] = some (claimedRecord 1)
    ∧ t.replyQueue = [⟨.reply, 0x21, 9, [0, 0, 1, 1, 0, 0, 0, 0, 1, 0]⟩] ∧ t.engine = .idle := by decide +kernel

/-- SHOW WINDOW of an unclaimed slot is refused NO_WINDOW at the packet's first command (R27, R163). -/
theorem test_show_unclaimed_window :
    (after .showWindow (running 0 [0x1A, 3, 6, 0, 0])).replyQueue
      = [⟨.reply, 0x10, 9, [5, 1, 0, 0, 0, 0, 0, 0, 0]⟩] := by decide +kernel

/-- WRITE CELLS under a mask that names the code and the flags (R48, R53). -/
theorem test_write_cells :
    cellAt (after .writeCells (running 0 [0x20, 6, 0x3F, 0xFF, 0x09, 0x41, 0x72, 0x05])).cells 16383
      = ⟨0x41, 0, 0, 5⟩ := by decide +kernel

/-- A CLIENT with no window owns no extent (R52). -/
theorem test_client_writes_outside_its_extents :
    let t := after .writeCells (running 1 [0x20, 6, 0, 0, 0x0F, 0x41, 0x72, 0x05])
    t.cells = [] ∧ t.replyQueue.map (fun o => o.payload.head?) = [some 0x09] := by decide +kernel

theorem test_cell_step_fills_one_cell :
    (after .cellStep (stepping 0 (.fill 16383 2 0x0F ⟨7, 1, 2, 0⟩ 1))).cells = [(0, ⟨7, 1, 2, 0⟩)] := by decide +kernel

theorem test_glyph_rows_replace :
    (after .writeGlyphRows (running 0 [0x30, 9, 7, 0xFF, 31, 1, 0, 0xFF, 0xFF, 0x81, 0x42])).glyphs
      = [(65535, 0x8142)] := by decide +kernel

theorem test_commit_sets_the_record :
    (after .commit (running 1 [0x50, 3, 1, 0x12, 0x34])).scene.commit = ⟨true, .at, 0x1234, some 1⟩ := by decide +kernel

theorem test_commit_stage_advances_the_epoch :
    let s := pendingCommit base
    (after .applyCommit { s with scene := { s.scene with stage := .commitDue false } }).scene.epoch = 1 := by decide +kernel

theorem test_second_matching_frame_locks :
    let t := after .frameEnd (acquiring ⟨34, none, 64, 1, 32, true⟩ (some small))
    t.rx.lock = .locked ∧ t.rx.geometry = some small ∧ t.tx.mode = .compose
    ∧ t.replyQueue = [⟨.notice, 0x10, 0, [3, 3, 0, 64, 0, 32, 0, 1, 0, 34]⟩] := by decide +kernel

theorem test_early_frame_start_damages_a_frame :
    let t := after .frameStart (locked (.inFrame 5 none) base)
    t.rx.damagedFrames = 1 ∧ t.rx.run = true ∧ t.comp.frame = .drawing ∧ t.scene.frameCounter = 1 := by decide +kernel

theorem test_border_pixel_is_drawn :
    let s := withSlot 1 (drawingAt 8 0 base)
    let live := { s.scene.live with colours := s.scene.live.colours.set 5 ⟨⟨255, 0, 0⟩, 6⟩ }
    (after (.pixel ⟨100, 50, 0⟩) { s with scene := { s.scene with live := live } }).linkOut
      = [.px ⟨216, 12, 0⟩] := by decide +kernel

/-- The LE of a line whose pixels were output, whatever its LS; and an LE of no line within an output frame (R134, R138). -/
theorem test_gap_after_a_stray_line_end :
    let pixels : State := { base with tx := { base.tx with linePixels := true } }
    let inFrame : State := { base with tx := { base.tx with frameOpen := true, gap := some ⟨.activeLine, []⟩ } }
    (after .lineEnd pixels).tx.gap = some ⟨.activeLine, []⟩ ∧ (after .lineEnd inFrame).tx.gap = some ⟨.activeLine, []⟩
    ∧ (after .lineEnd { base with tx := { base.tx with lineOpen := true } }).tx.gap = some ⟨.blanking, []⟩ := by
  decide +kernel

/-- The first LE after INIT ends a line that began in BYPASS, with and without a pixel (R134). -/
theorem test_gap_after_a_line_begun_in_bypass :
    let began := after (.lineStart 3) { State.reset with resetn := false }
    (after .lineEnd (after .initialisationSweepEnd began)).tx.gap = some ⟨.blanking, []⟩
    ∧ (after .lineEnd (after .initialisationSweepEnd (after (.pixel ⟨1, 2, 3⟩) began))).tx.gap
      = some ⟨.activeLine, []⟩ := by decide +kernel

/-- With stage 2 taken, a due commit is applied before the end of a session: the client's window is live and listed (R12, R18). -/
theorem test_no_end_between_two_stages :
    let s := withSlot 1 (pendingCommit base)
    let t := after .takeHeadPacket { s with
      sessions := #v[control, { client with idle := 60 }, Session.closed, Session.closed]
      scene := { s.scene with live := Scene.reset, stage := .commitDue false } }
    t.scene.live.windows[2] = some (record 1) ∧ t.scene.teardown = [2] ∧ t.scene.staged.windows[2] = none
    ∧ t.session 1 = Session.closed := by decide +kernel

theorem test_generated_line_start :
    (after .generatedSymbol (generating (.line 33))).tx.generator = .running small (.lineEnd 33) 16667 := by decide +kernel

theorem test_open_session_takes_the_lowest_closed_entry :
    let t := after (.packetReceived (commandRun 0x80 0x33 0 [0x01, 3, 2, 0, 60])) base
    (t.session 2).peer = 0x33 ∧ t.replyQueue = [⟨.reply, 0x33, 0, [0, 0, 1, 0, 0, 0, 0, 0, 1, 2]⟩] := by decide +kernel

theorem test_expired_session_is_closed :
    let s : State := { base with
      sessions := #v[control, { client with idle := 60 }, Session.closed, Session.closed]
      scene := { base.scene with stage := .settled } }
    let t := after .sessionExpiry s
    t.session 1 = Session.closed ∧ t.replyQueue = [⟨.notice, 0x10, 0, [2, 0x21, 1]⟩] := by decide +kernel

/-! ### States that meet the hypotheses of the statements -/

theorem witness_StepRunsTheFrontCommand :
    ({ base with pending := [.keepalive] } : State).pending = .keepalive :: [] ∧ base.pending = [] := ⟨rfl, rfl⟩

theorem witness_FrameStartStagesComeFirst :
    Instr.frameStart ∉ [Instr.resetnAsserted, .applyTeardown, .applyCommit, .blinkToggle, .sessionExpiry]
    ∧ 0 < base.scene.live.blinkPeriod ∧ 0 < base.scene.staged.blinkPeriod := by decide +kernel

theorem witness_ReleaseAndSweepStartThePart :
    (State.reset.settled ∧ State.reset.resetn = true)
    ∧ ({ State.reset with resetn := false } : State).settled ∧ ({ State.reset with resetn := false } : State).rx.lock = .init := by
  decide +kernel

theorem witness_BypassRepeatsTheInput :
    State.reset.settled ∧ State.reset.rx.lock = .init ∧ State.reset.tx.mode = .bypass := by decide +kernel

theorem acquiring_acquires (m : Measure) (candidate : Option Geometry) :
    (acquiring m candidate).settled ∧ (acquiring m candidate).rx.lock = .acquire ∧ (acquiring m candidate).tx.mode = .pass
    ∧ (acquiring m candidate).rx.tracker = ⟨.measuring m, candidate⟩ :=
  ⟨⟨rfl, rfl, rfl, show 0 < 32 by decide⟩, rfl, rfl, rfl⟩

/-- The clauses in their order; the premises on the state are `acquiring_acquires`. -/
theorem witness_AcquireMeasuresTheFrames :
    (base.settled ∧ base.rx.lock = .search ∧ base.tx.mode = .pass)
    ∧ (let closed : Measure := ⟨34, none, 64, 1, 32, true⟩
       let empty : Measure := ⟨1, some ⟨0, 0⟩, 0, 0, 0, false⟩
       let first : Measure := ⟨2, some ⟨1, 1⟩, 0, 0, 0, false⟩
       let later : Measure := ⟨3, some ⟨2, 64⟩, 64, 1, 1, false⟩
       let wider : Measure := ⟨3, some ⟨2, 65⟩, 64, 1, 1, false⟩
       let ended : Measure := ⟨5, some ⟨4, 64⟩, 64, 1, 2, true⟩
       (closed.line = none ∧ 34 = closed.next) ∧ (empty.line ≠ none ∨ 1 ≠ empty.next) ∧ (closed.line ≠ none ∨ 35 ≠ closed.next)
       ∧ empty.line = some ⟨0, 0⟩ ∧ (first.line = some ⟨1, 0 + 1⟩ ∧ first.h = 0)
       ∧ (later.line = some ⟨2, 63 + 1⟩ ∧ later.h ≠ 0 ∧ later.ended = false ∧ later.w = 63 + 1)
       ∧ (wider.line = some ⟨2, 64 + 1⟩ ∧ wider.h ≠ 0 ∧ wider.w ≠ 64 + 1)
       ∧ (ended.line = some ⟨4, 63 + 1⟩ ∧ ended.h ≠ 0 ∧ ended.ended = true)) := by decide +kernel

/-- The tracker between frames and before the first FS, in ACQUIRE and in a background acquisition, and one that is done. -/
theorem witness_AcquireMeasuresTheFrames_between :
    let tracks (phase : TrackerPhase) (s : State) : State := { s with rx := { s.rx with tracker := ⟨phase, some small⟩ } }
    let acquires (phase : TrackerPhase) : State := tracks phase (acquiring Measure.start none)
    let holds (phase : TrackerPhase) : State := tracks phase (generating .start)
    let found : State := { generating .start with rx := { (generating .start).rx with acquired := some small } }
    (∀ phase ∈ [TrackerPhase.gapAfter, .waiting], (acquires phase).settled ∧ (acquires phase).rx.lock = .acquire
      ∧ (acquires phase).tx.mode = .pass ∧ (acquires phase).rx.tracker.phase = phase
      ∧ (holds phase).settled ∧ (holds phase).rx.lock = .holdover ∧ (holds phase).tx.mode = .generate
      ∧ (holds phase).rx.acquired = none ∧ (acquires phase).rx.tracker = (holds phase).rx.tracker
      ∧ (after .frameStart (acquires phase)).rx.lock = .acquire)
    ∧ (symbolOf .frameStart = some .fs ∧ symbolOf .lineEnd = some .le ∧ Symbol.le ≠ .fs)
    ∧ found.settled ∧ found.rx.lock = .holdover ∧ found.rx.acquired ≠ none := by decide +kernel

/-- Both ends of the operating limits, a differing candidate, and frames outside the limits. -/
theorem witness_SecondMatchingFrameLocks :
    let least : Measure := ⟨34, none, 64, 1, 32, true⟩
    let most : Measure := ⟨4096, none, 4096, 1792, 2304, false⟩
    let limits (m : Measure) : Prop := 64 ≤ m.w ∧ m.w ≤ 4096 ∧ 32 ≤ m.h ∧ m.h ≤ 2304 ∧ m.h + 2 ≤ m.next ∧ m.next ≤ 4096
    (least.line = none ∧ limits least ∧ some small = some ⟨least.w, least.h, least.l0, least.next⟩)
    ∧ (most.line = none ∧ limits most ∧ some small ≠ some ⟨most.w, most.h, most.l0, most.next⟩)
    ∧ (({ least with line := some ⟨33, 0⟩ } : Measure).line ≠ none ∧ ¬ limits { least with w := 63 }
      ∧ ¬ limits { least with next := 33 })
    ∧ (acquiring least (some small)).control 0 ∧ (acquiring least (some small)).hasReplyRoom
    ∧ (acquiring least (some small)).tx.gap = none := by
  simp only [State.control]; decide +kernel

theorem witness_SecondMatchingFrameLocks_holdover :
    let m : Measure := ⟨34, none, 64, 1, 32, true⟩
    let s : State := { generating .start with rx := { (generating .start).rx with tracker := ⟨.measuring m, some small⟩ } }
    s.settled ∧ s.rx.lock = .holdover ∧ s.tx.mode = .generate ∧ s.rx.acquired = none ∧ m.line = none
    ∧ (⟨m.w, m.h, m.l0, m.next⟩ : Geometry) = small := by decide +kernel

theorem witness_LockedFrameStartIsComposited :
    let s := locked .afterFE base
    let waiting : State := { s with
      rx := { s.rx with frame := ⟨false, .inFrame 3 none, false⟩ }, tx := { s.tx with mode := .await } }
    let damaged : State := { s with rx := { s.rx with frame := ⟨true, .inFrame 3 none, true⟩ } }
    (s.settled ∧ s.rx.lock = .locked ∧ s.rx.geometry = some small ∧ s.tx.mode = .compose ∧ s.rx.frame.pos = .afterFE)
    ∧ (waiting.settled ∧ waiting.rx.lock = .locked ∧ waiting.tx.mode = .await ∧ waiting.rx.frame.judged = false)
    ∧ (damaged.settled ∧ damaged.rx.lock = .locked ∧ damaged.rx.frame.damaged = true)
    ∧ (s.session 1).isOpen = true ∧ (s.session 1).idle + 1 ≠ (s.session 1).limit
    ∧ waiting.comp.frame = .idle ∧ waiting.comp.owed = [] ∧ symbolOf .lineEnd = some .le ∧ Symbol.le ≠ .fs := by decide +kernel

/-- A window that fetches its first row at active line 0, and one that fetches a split row. -/
theorem witness_fetchDue :
    fetchDue (record 1) 0 ⟨.upper, 0, 0⟩
    ∧ fetchDue { record 1 with rows := 2, split := some ⟨1, 16383⟩, pitch := 2 } 16 ⟨.split, 1, 16383⟩
    ∧ ¬ fetchDue (record 1) 16 ⟨.upper, 1, 1⟩ := by
  refine ⟨⟨by decide, by decide, Or.inl rfl, rfl⟩, ⟨by decide, by decide, Or.inr ⟨by decide, by decide, rfl⟩⟩, ?_⟩
  rintro ⟨-, h, -⟩
  exact absurd h (by decide)

/-- The first and the last line, and the first and the last active line. -/
theorem witness_LockedLineStartOwesItsFetches :
    let at_ (n : Nat) : State :=
      let s := withSlot 1 (locked (.inFrame n none) base)
      { s with comp := { s.comp with frame := .drawing, geometry := some small } }
    let stands (n : Nat) : Prop := (at_ n).composing small ∧ (at_ n).rx.frame = ⟨true, .inFrame n none, false⟩ ∧ n < small.t
    (stands 0 ∧ 0 < small.l0) ∧ (stands 33 ∧ small.l0 + small.h ≤ 33)
    ∧ (stands 1 ∧ small.l0 ≤ 1 ∧ (at_ 1).comp.frame = .drawing) ∧ (stands 32 ∧ 32 < small.l0 + small.h)
    ∧ (at_ 1).scene.live.order = [2] ∧ (at_ 1).scene.live.windows[2] = some (record 1) := by decide +kernel

theorem drawingAt_draws (e : Fin 4) :
    (withSlot e (drawingAt 0 0 base)).drawing small 0 0 ∧ (withSlot e (drawingAt 63 31 base)).drawing small 63 31 := by
  refine ⟨⟨?_, rfl, rfl, ⟨_, rfl⟩, by decide, by decide⟩, ⟨?_, rfl, rfl, ⟨_, rfl⟩, by decide, by decide⟩⟩ <;>
    exact ⟨⟨rfl, rfl, rfl, show 0 < 32 by decide⟩, rfl, rfl, rfl⟩

theorem witness_RowFetchCopiesTheRow :
    let s := withSlot 1 (drawingAt 0 0 base)
    let t : State := { s with comp := { s.comp with owed := [(2, ⟨.upper, 0, 0⟩)] } }
    t.drawing small 0 0 ∧ t.comp.owed = [(2, ⟨.upper, 0, 0⟩)] ∧ t.scene.live.windows[2] = some (record 1) :=
  ⟨(drawingAt_draws 1).1, rfl, rfl⟩

/-- The record of `withSlot` with a key that passes black pixels alone. -/
def keyed : WindowRecord := { record 1 with key := some ⟨⟨0, 0, 0⟩, ⟨255, 255, 255⟩, .isMatch⟩ }

theorem witness_keys : passesKey (record 1) ⟨9, 9, 9⟩ ∧ passesKey keyed ⟨0, 0, 0⟩ ∧ ¬ passesKey keyed ⟨0, 0, 1⟩ := by
  refine ⟨trivial, ?_, ?_⟩
  · change keyMatches _ _
    unfold keyMatches
    decide
  · change ¬ keyMatches _ _
    unfold keyMatches
    decide

/-- Out of the footprint just beyond its edge, in the border at its inner and outer edge. -/
theorem witness_UncoveredAndBorderPixels :
    (let s := locked (.inFrame 2 (some ⟨1, 63⟩)) base
     let t : State := { s with comp := { s.comp with geometry := some small } }
     t.composing small ∧ t.rx.frame = ⟨true, .inFrame 2 (some ⟨1, 63⟩), false⟩ ∧ small.l0 ≤ 1 ∧ 1 < small.l0 + small.h
       ∧ 63 < small.w ∧ t.comp.geometry = some small ∧ t.comp.frame ≠ .drawing)
    ∧ (let s := withSlot 1 (drawingAt 10 0 base)
       s.rx.frame = ⟨true, .inFrame 2 (some ⟨1, 10⟩), false⟩ ∧ s.comp.frame = .drawing ∧ s.scene.live.order = [2]
        ∧ s.scene.live.windows[2] = some (record 1) ∧ s.comp.owed = [] ∧ (record 1).border = some ⟨2, 5⟩)
    ∧ (let s := locked (.inFrame 5 none) base
       let t : State := { s with
        rx := { s.rx with run := true, frame := ⟨true, .inFrame 5 none, true⟩ }
        comp := { s.comp with frame := .stopped, geometry := some small } }
       t.composing small ∧ t.rx.frame = ⟨true, .inFrame 5 none, true⟩ ∧ t.comp.frame ≠ .drawing)
    ∧ ¬ covers (record 1) 10 0
    ∧ (covers (record 1) 8 0 ∧ ¬ inContent (record 1) 8 0) ∧ (covers (record 1) 9 17 ∧ ¬ inContent (record 1) 9 17) := by
  unfold covers inContent
  decide +kernel

/-- The first and the last dot of a cell: its glyph row not yet read, held, and held for another column. -/
theorem witness_ContentPixelIsBlended :
    let s := withSlot 1 (drawingAt 0 0 base)
    let entry : CacheEntry := ⟨⟨65, 7, 0, 0⟩, 0⟩
    let t : State := { s with comp := { s.comp with caches := s.comp.caches.set 2 [entry] } }
    t.drawing small 0 0 ∧ t.comp.owed = [] ∧ t.scene.live.order = [2] ∧ t.scene.live.windows[2] = some (record 1)
    ∧ inContent (record 1) 0 0 ∧ inContent (record 1) 7 15 ∧ ¬ inContent (record 1) 8 15
    ∧ (t.comp.caches[2])[(0 - (record 1).x) / (record 1).cellWidth]? = some entry ∧ t.comp.reads[2] = none
    ∧ (⟨0, 0x8000⟩ : GlyphRead).column = (7 - (record 1).x) / (record 1).cellWidth
    ∧ (⟨1, 0x8000⟩ : GlyphRead).column ≠ (7 - (record 1).x) / (record 1).cellWidth := by
  refine ⟨(drawingAt_draws 1).1, rfl, rfl, rfl, ?_⟩
  unfold inContent
  decide +kernel

theorem witness_WindowsMixBackToFront :
    (withSlot 1 base).scene.live.order = 2 :: [] ∧ (withSlot 1 base).scene.live.windows[2] = some (record 1)
    ∧ (record 1).border = some ⟨2, 5⟩ ∧ covers (record 1) 9 17 ∧ ¬ inContent (record 1) 9 17
    ∧ passesKey (record 1) ⟨0, 0, 0⟩ ∧ (withSlot 1 (drawingAt 0 0 base)).drawing small 0 0
    ∧ ¬ covers (record 1) 10 0 ∧ inContent (record 1) 7 15 := by
  refine ⟨rfl, rfl, rfl, ?_, ?_, trivial, (drawingAt_draws 1).1, ?_, ?_⟩
  · unfold covers
    decide
  · unfold inContent
    decide
  · unfold covers
    decide
  · unfold inContent
    decide

/-- A full active line, the blanking lines before and after the active ones, and the FE of the last line. -/
theorem witness_LockedLineAndFrameEnds :
    let active := locked (.inFrame 2 (some ⟨1, 64⟩)) base
    let before := locked (.inFrame 1 (some ⟨0, 0⟩)) base
    let behind := locked (.inFrame 34 (some ⟨33, 0⟩)) base
    let last := locked (.inFrame 34 none) base
    active.composing small ∧ before.composing small ∧ behind.composing small ∧ last.composing small
    ∧ (small.l0 ≤ 1 ∧ 1 < small.l0 + small.h ∧ 64 = small.w) ∧ 0 < small.l0 ∧ small.l0 + small.h ≤ 33
    ∧ last.rx.frame = ⟨true, .inFrame 34 none, false⟩ ∧ 34 = small.t := by decide +kernel

/-- Every way to depart from the frame, where it meets the frames that do not. -/
theorem witness_departs :
    departs small (.inFrame 3 none) (.lineStart 4) ∧ departs small (.inFrame 34 none) (.lineStart 34)
    ∧ departs small (.inFrame 3 (some ⟨2, 0⟩)) (.lineStart 3) ∧ departs small .afterFE (.lineStart 0)
    ∧ departs small (.inFrame 1 (some ⟨0, 0⟩)) (.pixel ⟨0, 0, 0⟩) ∧ departs small (.inFrame 34 (some ⟨33, 0⟩)) (.pixel ⟨0, 0, 0⟩)
    ∧ departs small (.inFrame 2 (some ⟨1, 64⟩)) (.pixel ⟨0, 0, 0⟩) ∧ departs small (.inFrame 2 none) (.pixel ⟨0, 0, 0⟩)
    ∧ departs small (.inFrame 2 (some ⟨1, 63⟩)) .lineEnd ∧ departs small .afterFE .lineEnd
    ∧ departs small (.inFrame 33 none) .frameEnd ∧ departs small (.inFrame 34 (some ⟨33, 0⟩)) .frameEnd
    ∧ ¬ departs small (.inFrame 33 none) (.lineStart 33) ∧ ¬ departs small (.inFrame 2 (some ⟨1, 63⟩)) (.pixel ⟨0, 0, 0⟩)
    ∧ ¬ departs small (.inFrame 2 (some ⟨1, 64⟩)) .lineEnd ∧ ¬ departs small (.inFrame 34 none) .frameEnd := by
  simp [departs, small]

theorem witness_DamagedFramesStopAndUnlock :
    let s := locked (.inFrame 3 none) base
    let again : State := { s with rx := { s.rx with run := true } }
    (s.composing small ∧ s.rx.frame = ⟨true, .inFrame 3 none, false⟩ ∧ s.rx.run = false)
    ∧ (again.composing small ∧ again.rx.frame = ⟨true, .inFrame 3 none, false⟩ ∧ again.rx.run = true)
    ∧ FramePos.inFrame 3 none ≠ .afterFE
    ∧ again.tx.gap = none ∧ again.control 0
    ∧ ({ again with sessions := Vector.replicate 4 Session.closed } : State).noControl := by
  simp only [State.control, State.noControl]; decide +kernel

theorem witness_BlankingGapTakesReplies :
    let at_ (gap : Option Gap) : State :=
      { base with
        tx := { base.tx with gap := gap }, replyQueue := [⟨.reply, 0x21, 9, [0]⟩], engine := .waiting
        commandQueue := [⟨some 0, 5, [0x03, 0]⟩] }
    let stands (s : State) : Prop := s.settled ∧ s.rx.lock = .search ∧ s.tx.mode = .pass
    (stands (at_ (some ⟨.blanking, [[1], [2]]⟩)) ∧ (at_ none).replyQueue ≠ [] ∧ [[1], [2]].length < 3
      ∧ (at_ none).engine = .waiting)
    ∧ (stands (at_ (some ⟨.blanking, [[1], [2], [3]]⟩)) ∧ 3 ≤ [[1], [2], [3]].length)
    ∧ (stands (at_ none) ∧ ∀ g, (at_ none).tx.gap = some g → g.kind ≠ .blanking)
    ∧ stands (at_ (some ⟨.activeLine, []⟩)) ∧ GapKind.activeLine ≠ .blanking :=
  ⟨by decide +kernel, by decide +kernel, ⟨by decide +kernel, fun _ h => nomatch h⟩, by decide +kernel⟩

/-- In a blanking gap. -/
def inGap (s : State) : State := { s with tx := { s.tx with gap := some ⟨.blanking, []⟩ } }

/-- Before a symbol of PASS and of COMPOSE: untold for each reason, and told with a full Reply Queue. -/
theorem witness_BlankingGapTakesReplies_symbols :
    let passing := inGap (acquiring Measure.start none)
    let composing := inGap (locked .afterFE base)
    let alone : State := { composing with sessions := Vector.replicate 4 Session.closed }
    let unlocking : State := { composing with rx := { composing.rx with run := true }, replyQueue := full.replyQueue }
    (symbolOf .lineEnd = some .le ∧ passing.settled ∧ passing.tx.mode = .pass ∧ passing.untold .le)
    ∧ (symbolOf .frameStart = some .fs ∧ composing.settled ∧ composing.tx.mode = .compose ∧ composing.untold .fs)
    ∧ (alone.settled ∧ alone.untold .fe) ∧ (unlocking.settled ∧ 3 ≤ unlocking.replyQueue.length) := by
  refine ⟨⟨rfl, by decide +kernel, rfl, .inr (.inl ?_)⟩, ⟨rfl, by decide +kernel, rfl, .inr (.inr ⟨rfl, rfl, .inr (.inr ?_)⟩)⟩,
    ⟨by decide +kernel, .inl ⟨?_, rfl⟩⟩, by decide +kernel⟩ <;>
    decide +kernel

/-- Before a symbol of the generator, and before its FS. -/
theorem witness_BlankingGapTakesReplies_generator :
    ((inGap (generating (.line 0))).settled ∧ GenPos.line 0 ≠ .start ∧ GenPos.line 0 ≠ .ended)
    ∧ (inGap (generating .start)).settled ∧ (inGap (generating .start)).startsUntold :=
  ⟨by decide +kernel, by decide +kernel, .inr (by decide +kernel)⟩

/-- A whole packet, and runs at the edges of the limits. -/
theorem witness_RunsAreJudgedByTheirBytes :
    judgeRun (commandRun 0x80 0x10 1 [0x03, 0]) = .good 0xC1 0x80 0x10 1 [0x03, 0]
    ∧ judgeRun (List.replicate 248 0) = .overrun ∧ judgeRun [0xC1, 0x80, 0x10, 1, 241] = .overrun
    ∧ judgeRun [0xC1, 0x80, 0x10, 1, 240] = .bad := by decide +kernel

theorem witness_BadAndExcessPacketsAreDiscarded :
    let third : State := { base with rx := { base.rx with gapPackets := 2 } }
    let fourth : State := { base with rx := { base.rx with gapPackets := 3 } }
    let clean := locked (.inFrame 3 none) base
    let damaged : State := { clean with rx := { clean.rx with frame := ⟨true, .inFrame 3 none, true⟩ } }
    let held := generating .start
    let found : State := { held with rx := { held.rx with acquired := some small } }
    (third.settled ∧ third.rx.lock ≠ .init ∧ third.rx.gapPackets < 3 ∧ judgeRun [1, 2] = .bad)
    ∧ (fourth.settled ∧ 3 ≤ fourth.rx.gapPackets ∧ fourth.rx.lock = .search)
    ∧ judgeRun (List.replicate 248 0) = .overrun
    ∧ (clean.settled ∧ clean.rx.lock = .locked ∧ clean.rx.frame.judged = true ∧ clean.rx.frame.damaged = false)
    ∧ (damaged.settled ∧ damaged.rx.lock = .locked ∧ damaged.rx.frame.damaged = true)
    ∧ (held.settled ∧ held.rx.lock = .holdover ∧ held.rx.acquired = none)
    ∧ (found.settled ∧ found.rx.lock = .holdover ∧ found.rx.acquired ≠ none)
    ∧ (acquiring Measure.start none).rx.lock = .acquire := by decide +kernel

theorem witness_PacketsForOthersAndBroadcasts :
    let lost := generating .start
    let full : State := { base with commandQueue := List.replicate 4 ⟨none, 0, []⟩ }
    let waiting : State := { locked .afterFE base with tx := { base.tx with mode := .await } }
    (base.takes (commandRun 0x81 0x10 1 [0x03, 0]) 0xC1 0x81 0x10 1 [0x03, 0] ∧ (0x81 : Byte) ≠ base.unitAddress
      ∧ base.tx.mode = .pass)
    ∧ (lost.takes (commandRun 0x81 0x10 1 []) 0xC1 0x81 0x10 1 [] ∧ lost.tx.mode = .generate)
    ∧ (base.takes (commandRun 0 0x10 0 [0x52, 2, 0, 9]) 0xC1 0 0x10 0 [0x52, 2, 0, 9] ∧ base.unitAddress ≠ 0
      ∧ base.tx.mode ≠ .bypass ∧ base.commandQueue.length < 4)
    ∧ (full.takes (commandRun 0 0x10 0 []) 0xC1 0 0x10 0 [] ∧ 4 ≤ full.commandQueue.length)
    ∧ waiting.takes (commandRun 0 0x10 0 []) 0xC1 0 0x10 0 [] ∧ waiting.tx.mode = .await ∧ waiting.commandQueue = [] := by
  decide +kernel

/-- Three CLIENT sessions and no CONTROL session. -/
def clients : State :=
  { base with sessions := #v[client, { client with peer := 0x22 }, { client with peer := 0x23 }, Session.closed] }

def opens (s : State) (source : Byte) (payload : List Byte) : Prop :=
  s.takesCommand (commandRun 0x80 source 0 payload) source 0 payload

theorem witness_OpenPacketsAreAnswered_accepted :
    (opens base 0x33 [0x01, 3, 1, 0, 60] ∧ 60 ≤ be16 0 60) ∧ (opens full 0x33 [0x01, 3, 2, 0, 60] ∧ ¬ full.hasReplyRoom)
    ∧ (base.hasReplyRoom ∧ base.stranger 0x33)
    ∧ ((base.counted.session 0).isOpen = true ∧ (base.counted.session 0).role = .control)
    ∧ (clients.stranger 0x33 ∧ 3 ≤ clients.counted.clientCount) := by
  unfold opens
  decide +kernel

theorem witness_OpenPacketsAreAnswered_opened :
    (base.counted.clientCount < 3 ∧ (base.counted.session 2).isOpen = false
      ∧ ∀ a : Fin 4, a < 2 → (base.counted.session a).isOpen = true)
    ∧ (opens base 0x10 [0x01, 3, 1, 0, 60] ∧ base.holds 0x10 0)
    ∧ ((endSession 0 base.counted).noControl ∧ ((endSession 0 base.counted).session 0).isOpen = false) := by
  unfold opens
  decide +kernel

/-- A limit one below the least, a short payload from a peer with a session, and a unit address as the source. -/
theorem witness_OpenPacketsAreAnswered_refused :
    (opens base 0x33 [0x01, 3, 1, 0, 59] ∧ be16 0 59 < 60 ∧ base.stranger 0x33)
    ∧ (opens base 0x21 [0x01, 2, 1, 0] ∧ base.holds 0x21 1) ∧ opens full 0x33 []
    ∧ base.takes (commandRun 0x80 0x8F 0 []) 0xC1 base.unitAddress 0x8F 0 [] := by
  unfold opens
  decide +kernel

def sends (s : State) (source seq : Byte) : Prop :=
  s.takesCommand (commandRun 0x80 source seq [0x03, 0]) source seq [0x03, 0]

/-- The CLIENT session with its last reply in the cache. -/
def cached (inProgress : Bool) : State :=
  { base with sessions :=
      base.sessions.set 1 { client with inProgress := inProgress, cache := some ⟨.reply, 0x21, 8, [0]⟩ } }

theorem witness_SequencedPacketsAreAdmitted :
    (sends base 0x33 1 ∧ base.stranger 0x33 ∧ base.hasReplyRoom) ∧ (sends full 0x33 1 ∧ ¬ full.hasReplyRoom)
    ∧ (sends base 0x21 9 ∧ base.holds 0x21 1 ∧ (base.session 1).nextSeq = 9 ∧ base.commandQueue.length < 4)
    ∧ (sends full 0x21 9 ∧ full.holds 0x21 1 ∧ 4 ≤ full.commandQueue.length)
    ∧ sends base 0x21 10 ∧ (10 : Byte) ≠ (base.session 1).nextSeq ∧ (10 : Byte) ≠ (base.session 1).lastSeq := by
  unfold sends
  refine ⟨?_, ?_, ?_, ?_, ?_⟩ <;> decide +kernel

theorem witness_SequencedPacketsAreAdmitted_duplicate :
    (sends (cached true) 0x21 8 ∧ ((cached true).session 1).inProgress = true ∧ ((cached true).session 1).lastSeq = 8)
    ∧ sends (cached false) 0x21 8 ∧ ((cached false).session 1).inProgress = false
    ∧ ((cached false).session 1).cache = some ⟨.reply, 0x21, 8, [0]⟩ := by
  unfold sends
  decide +kernel

theorem witness_SessionEndClosesAndTearsDown :
    let other := packet 0 [0x03, 0]
    let own := packet 1 [0x03, 0]
    other.packet.session ≠ some 1 ∧ own.packet.session = some 1
    ∧ base.engine = .idle
    ∧ (let s : State := { base with engine := .waiting, commandQueue := [⟨some 0, 1, []⟩, ⟨some 1, 9, []⟩] }
       s.engine = .waiting ∧ (endSession 1 s).commandQueue.head? = s.commandQueue.head?)
    ∧ (let s : State := { contesting base with engine := .reserved }
       s.engine = .reserved ∧ (endSession 1 s).engine = .idle ∧ (endSession 0 s).engine = .reserved)
    ∧ (let s : State := { base with engine := .testing, commandQueue := [⟨some 1, 9, []⟩] }
       s.engine = .testing ∧ (endSession 1 s).commandQueue = [])
    ∧ (withSlot 1 base).scene.live.windows[2] = some (record 1) ∧ (record 1).owner = 1 := by decide +kernel

theorem witness_WatchdogExpiryLosesTheInput :
    let s := locked .afterFE base
    let open_ : State := { s with
      settings := { s.settings with fallback := true }, tx := { s.tx with frameOpen := true, lineOpen := true } }
    let acquire : State := { acquiring Measure.start none with
      rx := { (acquiring Measure.start none).rx with watchdog := some 100 } }
    let held : State := { generating .start with rx := { (generating .start).rx with watchdog := some 20 } }
    (base.settled ∧ base.rx.watchdog = none)
    ∧ (acquire.settled ∧ acquire.rx.watchdog.isSome = true ∧ acquire.rx.lock = .acquire)
    ∧ (held.settled ∧ held.rx.watchdog.isSome = true ∧ held.rx.lock = .holdover)
    ∧ (s.settled ∧ s.rx.watchdog.isSome = true ∧ s.rx.lock = .locked ∧ s.settings.fallback = false ∧ s.control 0)
    ∧ (open_.settled ∧ open_.rx.watchdog.isSome = true ∧ open_.rx.lock = .locked ∧ open_.rx.geometry = some small
      ∧ open_.settings.fallback = true ∧ open_.tx.lineOpen = true)
    ∧ s.tx.lineOpen = false ∧ s.tx.frameOpen = false ∧ s.tx.gap = none := by
  simp only [State.control]
  decide +kernel

/-- On entry to HOLDOVER: no CONTROL session, one with room, one at a full queue, with a line, a frame or a gap open. -/
theorem witness_WatchdogExpiryLosesTheInput_replies :
    let s : State := { locked .afterFE base with
      settings := { base.settings with fallback := true }
      tx := { (locked .afterFE base).tx with frameOpen := true, lineOpen := true } }
    let crowded : State := { s with replyQueue := full.replyQueue, tx := { s.tx with gap := some ⟨.blanking, [[1]]⟩ } }
    (clients.noControl ∧ s.control 0 ∧ s.hasReplyRoom) ∧ (crowded.control 0 ∧ ¬ crowded.hasReplyRoom)
    ∧ crowded.settled ∧ crowded.rx.watchdog.isSome = true ∧ crowded.rx.lock = .locked
    ∧ crowded.rx.geometry = some small ∧ crowded.settings.fallback = true := by
  simp only [State.control, State.noControl]
  decide +kernel

theorem witness_GeneratedFrameStartIsComposited :
    let found : State := { generating .ended with rx := { (generating .ended).rx with acquired := some small } }
    ((generating .start).settled ∧ (generating .start).tx.generator = .running small .start 16667)
    ∧ ((generating .ended).tx.generator = .running small .ended 16667 ∧ (generating .ended).rx.acquired = none)
    ∧ found.settled ∧ found.tx.generator = .running small .ended 16667 ∧ found.rx.acquired ≠ none := by decide +kernel

/-- The first and last line and pixel of each kind. -/
theorem witness_GeneratorMakesItsFrame :
    let drawn : State := { generating (.pixel 32 63) with
      comp := { (generating (.pixel 32 63)).comp with frame := .drawing, geometry := some small } }
    ((generating (.line 0)).settled ∧ (generating (.line 0)).tx.generator = .running small (.line 0) 16667)
    ∧ (generating (.line 33)).tx.generator = .running small (.line 33) 16667
    ∧ (generating (.pixel 1 0)).tx.generator = .running small (.pixel 1 0) 16667
    ∧ (drawn.settled ∧ drawn.tx.generator = .running small (.pixel 32 63) 16667 ∧ drawn.comp.frame = .drawing
      ∧ drawn.comp.owed = [])
    ∧ (generating (.lineEnd 33)).tx.generator = .running small (.lineEnd 33) 16667
    ∧ (generating .frameEnd).tx.generator = .running small .frameEnd 16667 := by decide +kernel

theorem witness_RelockWaitsForTheNextFrame :
    let s : State := { generating .ended with
      rx := { (generating .ended).rx with acquired := some small }
      tx := { (generating .ended).tx with gap := some ⟨.blanking, []⟩ } }
    s.settled ∧ s.rx.lock = .holdover ∧ s.tx.generator = .running small .ended 16667 ∧ s.rx.acquired = some small
    ∧ s.tx.gap = some ⟨.blanking, []⟩ ∧ s.control 0 ∧ s.hasReplyRoom := by
  simp only [State.control]
  decide +kernel

/-- The engine and a notice contest the last entry: at a loss of lock to SEARCH or HOLDOVER, at an FE that locks, and, once a
gap has taken one of eight entries, at the relock. -/
theorem witness_noticesAreContested :
    let lost (fallback : Bool) : State := contesting { locked .afterFE base with
      settings := { base.settings with fallback := fallback } }
    let locks : State := contesting (acquiring ⟨34, none, 64, 1, 32, true⟩ (some small))
    let relocks : State := { generating .ended with
      commandQueue := [⟨some 1, 9, []⟩], replyQueue := full.replyQueue, engine := .waiting
      rx := { (generating .ended).rx with acquired := some small }
      tx := { (generating .ended).tx with gap := some ⟨.blanking, [[1], [2]]⟩ } }
    (∀ b, (lost b).settled ∧ (lost b).rx.lock = .locked ∧ (lost b).control 0 ∧ (lost b).hasReplyRoom ∧ (lost b).contested)
    ∧ (locks.settled ∧ locks.control 0 ∧ locks.hasReplyRoom ∧ locks.contested)
    ∧ relocks.settled ∧ relocks.control 0 ∧ ({ relocks with
        replyQueue := relocks.replyQueue.drop 1, engine := .testing } : State).contested := by
  have tests (s : State) : (contesting s).testsSession := ⟨rfl, _, _, rfl, by decide⟩
  refine ⟨fun b => ⟨?_, ?_, ?_, ?_, tests _, ?_⟩, ⟨?_, ?_, ?_, tests _, ?_⟩, ?_, ?_, ⟨⟨rfl, _, _, rfl, ?_⟩, ?_⟩⟩ <;>
    (try simp only [State.control]) <;> first | decide +kernel | (cases b <;> decide +kernel)

/-- A frame start with its stages still to come: slot 2 is listed for teardown and a commit is due. -/
def staged (stage : SceneStage) : State :=
  let s := pendingCommit (withSlot 1 base)
  { s with scene := { s.scene with stage := stage, teardown := [2] } }

theorem witness_stages :
    (staged .teardownDue).scene.stage = .teardownDue ∧ base.scene.stage ≠ .teardownDue
    ∧ ∃ u, exec .applyTeardown (staged .teardownDue) = .next u := ⟨rfl, by decide +kernel, _, rfl⟩

theorem witness_TeardownStageRemovesListedWindows :
    (staged .teardownDue).scene.stage = .teardownDue ∧ base.scene.stage ≠ .teardownDue := by decide +kernel

theorem witness_CommitStageMakesStagingLive :
    let s := staged (.commitDue true)
    let at_ (counter target : Word) : State := { s with scene := { s.scene with
      frameCounter := counter, commit := ⟨true, .at, target, none⟩ } }
    base.scene.stage = .settled ∧ (staged .teardownDue).scene.stage = .teardownDue
    ∧ (s.scene.stage = .commitDue true ∧ s.scene.commit.pending = true ∧ s.scene.commit.mode = .next
      ∧ s.scene.commit.issuer = some 0 ∧ (s.session 0).isOpen = true)
    ∧ ((at_ 32767 0).scene.stage = .commitDue true ∧ (at_ 32767 0).scene.commit.pending = true
      ∧ ((at_ 32767 0).scene.frameCounter - (at_ 32767 0).scene.commit.target).toNat < 32768
      ∧ (at_ 32767 0).scene.commit.issuer = none)
    ∧ ¬ ((at_ 32768 0).scene.frameCounter - (at_ 32768 0).scene.commit.target).toNat < 32768
    ∧ (at_ 32768 0).scene.commit.mode ≠ .next := by decide +kernel

theorem witness_BlinkTogglesAtThePeriod :
    let at_ (counter : Nat) : State := { base with comp := { base.comp with blinkCounter := counter } }
    (staged .teardownDue).scene.stage ≠ .settled
    ∧ ((at_ 31).scene.stage = .settled ∧ (at_ 31).comp.blinkCounter < (at_ 31).scene.live.blinkPeriod)
    ∧ (at_ 32).scene.stage = .settled ∧ (at_ 32).scene.live.blinkPeriod ≤ (at_ 32).comp.blinkCounter := by decide +kernel

theorem witness_ExpiredSessionsEndInOrder :
    let last : State := { base with sessions := base.sessions.set 1 { client with idle := 60 } }
    let two : State := { last with sessions := last.sessions.set 0 { control with idle := 600 } }
    let owing : State := { last with scene := { last.scene with stage := .teardownDue } }
    let begun : State := { last with scene := { last.scene with stage := .commitDue true } }
    let alone : State := { last with sessions := last.sessions.set 0 Session.closed, expired := [0x10] }
    let due (s : State) (a : Fin 4) : Prop := (s.session a).isOpen = true ∧ (s.session a).idle = (s.session a).limit
    let releasing : State := { last with
      engine := .executing (packet 1 [0x03, 0]), commandQueue := [⟨some 0, 5, [0x03, 0]⟩], replyQueue := full.replyQueue.drop 1 }
    (∀ a, ¬ due base a)
    ∧ (due releasing 1 ∧ (endSession 1 releasing.quiet).testsSession
      ∧ 8 - ((endSession 1 releasing.quiet).replyQueue.length + (endSession 1 releasing.quiet).reservations) = 1)
    ∧ (due two 0 ∧ due two 1 ∧ two.scene.stage = .settled)
    ∧ (due last 1 ∧ (∀ a, a ≠ 1 → ¬ due last a) ∧ last.scene.stage = .settled ∧ last.expired = []
      ∧ (endSession 1 last.quiet).control 0)
    ∧ (due owing 1 ∧ (∀ a, a ≠ 1 → ¬ due owing a) ∧ owing.scene.stage = .teardownDue)
    ∧ (due alone 1 ∧ alone.expired ≠ [] ∧ (endSession 1 alone.quiet).noControl)
    ∧ due begun 1 ∧ begun.scene.stage = .commitDue true ∧ ∃ w, exec .applyCommit begun = .next w := by
  refine ⟨?_, ⟨?_, ⟨?_, _, _, rfl, ?_⟩, ?_⟩, ?_, ?_, ?_, ?_, ?_, rfl, _, rfl⟩ <;>
    simp only [State.control, State.noControl] <;> decide +kernel

theorem witness_HeadPacketIsTakenWithAReservation :
    let waiting (p : Packet) : State := { base with commandQueue := [p], engine := .testing }
    let own : Packet := ⟨some 1, 9, [0x03, 0]⟩
    let crowded : State := { full with commandQueue := [own], engine := .testing }
    let held : State := { contesting base with engine := .reserved }
    ((running 0 [0x03, 0]).settled ∧ (running 0 [0x03, 0]).engine = .executing (packet 0 [0x03, 0]))
    ∧ base.commandQueue = [] ∧ base.engine = .idle
    ∧ (waiting ⟨none, 0, []⟩).commandQueue = [⟨none, 0, []⟩]
    ∧ ((waiting own).commandQueue = [own] ∧ own.session = some 1 ∧ (waiting own).hasReplyRoom)
    ∧ (crowded.settled ∧ crowded.commandQueue = [own] ∧ ¬ crowded.hasReplyRoom ∧ crowded.engine = .testing)
    ∧ held.settled ∧ held.commandQueue = [own] ∧ ¬ held.hasReplyRoom ∧ held.engine = .reserved
    ∧ (after .takeHeadPacket held).engine = .executing (packet 1 [0x03, 0]) := by
  decide +kernel

theorem witness_PacketEndsWithItsReply :
    (packet 0 []).rest = [] ∧ (packet 0 [0x03, 0]).rest = 0x03 :: [0] ∧ (Instr.keepalive, 0x03) ∈ commandRows
    ∧ ∀ p ∈ commandRows, p.2 ≠ 0x08 := by decide +kernel

/-- A packet of entry `e` stands at its first command, whose operand bytes are `ops`. -/
theorem running_stands (e : Fin 4) (code : Byte) (ops tail : List Byte) (h : ops.length ≤ 255) :
    (running e (code :: byte ops.length :: ops ++ tail)).standsAt code e
      (packet e (code :: byte ops.length :: ops ++ tail)) ops := by
  refine ⟨⟨rfl, rfl, rfl, show 0 < 32 by decide⟩, rfl, rfl, rfl, rfl, ?_⟩
  have hl : (byte ops.length).toNat = ops.length := by
    simp only [byte, BitVec.toNat_ofNat]
    omega
  simp [operandsOf, Executing.rest, packet, hl]

/-- The packet of entry `e` that holds one command with these operand bytes. -/
def oneCommand (code : Byte) (ops : List Byte) : List Byte := code :: byte ops.length :: ops ++ []

/-- A plain command with operands in range stands in the packet of entry `e`. -/
def meets (e : Fin 4) (i : Instr) (code : Byte) (ops : List Byte) : Prop :=
  (running e (oneCommand code ops)).standsAt code e (packet e (oneCommand code ops)) ops ∧ operandsInRange i ops = true

theorem meets_of_range {e : Fin 4} {i : Instr} {code : Byte} {ops : List Byte}
    (h : (decide (ops.length ≤ 255) && operandsInRange i ops) = true) : meets e i code ops := by
  simp only [Bool.and_eq_true, decide_eq_true_eq] at h
  exact ⟨running_stands e code ops [] h.1, h.2⟩

/-- A window command with operands in range stands in the packet of entry 1, which owns the window in slot 2. -/
def meetsSlot (i : Instr) (code : Byte) (ops : List Byte) : Prop :=
  let s := withSlot 1 (running 1 (oneCommand code ops))
  s.standsAt code 1 (packet 1 (oneCommand code ops)) ops ∧ s.mayEdit 1 2 (record 1) ∧ windowOperandsInRange i ops = true

theorem meetsSlot_of_range {i : Instr} {code : Byte} {ops : List Byte}
    (h : (decide (ops.length ≤ 255) && windowOperandsInRange i ops) = true) : meetsSlot i code ops := by
  simp only [Bool.and_eq_true, decide_eq_true_eq] at h
  obtain ⟨-, h1, h2, h3, h4, h5⟩ := running_stands 1 code ops [] h.1
  exact ⟨⟨⟨rfl, rfl, rfl, show 0 < 32 by decide⟩, h1, h2, h3, h4, h5⟩, ⟨rfl, Or.inr rfl, rfl⟩, h.2⟩

/-- The packet of entry 0 stands at KEEPALIVE with an operand, at SET BORDER with a width of 9, and at KEEPALIVE with its
operand missing. -/
theorem witness_OperandsOutOfRangeAreRefused :
    ((Instr.keepalive, 0x03) ∈ commandRows ∧ (Instr.keepalive, 0x03) ∈ plainCommands
      ∧ (running 0 [0x03, 1, 0]).standsAt 0x03 0 (packet 0 [0x03, 1, 0]) [0] ∧ operandsInRange .keepalive [0] = false)
    ∧ ((Instr.setBorder, 0x16) ∈ slotCommands
      ∧ (running 0 [0x16, 3, 7, 9, 0]).standsAt 0x16 0 (packet 0 [0x16, 3, 7, 9, 0]) [7, 9, 0]
      ∧ windowOperandsInRange .setBorder [7, 9, 0] = false)
    ∧ ((running 0 [0x03, 1]).settled ∧ operandsOf (packet 0 [0x03, 1]).rest = none
      ∧ (packet 0 [0x03, 1]).rest.head? = some 0x03 ∧ (packet 0 [0x03, 1]).long = none)
    ∧ (packet 0 [0x04, 0]).rest.head? ≠ some 0x03 := by decide +kernel

theorem stepping_flies (e : Fin 4) (c : LongCommand) :
    (stepping e c).inFlight e { packet e [0x21, 0] with long := some c } c :=
  ⟨⟨rfl, rfl, rfl, show 0 < 32 by decide⟩, rfl, rfl, rfl⟩

theorem empty_stores_are_canonical {s : State} (hc : s.cells = []) (hg : s.glyphs = []) : StoresCanonical s := by
  unfold StoresCanonical
  rw [hc, hg]
  exact ⟨⟨.nil, nofun⟩, ⟨.nil, nofun⟩⟩

theorem witness_CellStepsTakeOneCellEach :
    ∃ x, (stepping 1 (.fill 16383 16384 1 Cell.clear 16383)).inFlight 1 x (.fill 16383 16384 1 Cell.clear 16383)
    ∧ StoresCanonical (stepping 1 (.fill 16383 16384 1 Cell.clear 16383))
    ∧ (stepping 1 (.fill 16383 16384 1 Cell.clear 16383)).comp.owed = [] :=
  ⟨_, stepping_flies _ _, empty_stores_are_canonical rfl rfl, rfl⟩

theorem witness_CellStepsTakeOneCellEach_copy :
    ∃ x, (stepping 0 (.copy 0 1 16383 255 160 120 19199)).inFlight 0 x (.copy 0 1 16383 255 160 120 19199)
    ∧ StoresCanonical (stepping 0 (.copy 0 1 16383 255 160 120 19199)) :=
  ⟨_, stepping_flies _ _, empty_stores_are_canonical rfl rfl⟩

/-- Two fetches owed by two windows, as the copy step, the fill step and WRITE CELLS may find them. -/
theorem witness_fetchesTaken :
    let s := withSlot 1 (stepping 1 (.fill 0 1 1 Cell.clear 0))
    let owes : State := { s with comp := { s.comp with owed := [(2, ⟨.upper, 0, 0⟩), (5, ⟨.upper, 0, 0⟩)] } }
    (owes.comp.owed.map Prod.fst).Nodup ∧ (2, ⟨.upper, 0, 0⟩) ∈ owes.comp.owed
    ∧ owes.scene.live.windows[(2 : Fin 8)] = some (record 1) := by decide +kernel

theorem witness_GlyphStepClearsOneGlyph :
    (∃ x, (stepping 0 (.clearBank 7 255)).inFlight 0 x (.clearBank 7 255))
    ∧ StoresCanonical (stepping 0 (.clearBank 7 255)) ∧ (255 ≤ 255 ∧ 7 ≤ 7)
    ∧ base.settled ∧ base.engine = .idle := 
  ⟨⟨_, stepping_flies _ _⟩, empty_stores_are_canonical rfl rfl, by decide +kernel⟩

theorem witness_KeepaliveIsCountedAndChangesNothing :
    (running 1 [0x03, 0]).standsAt 0x03 1 (packet 1 [0x03, 0]) []
    ∧ (packet 1 [0x03, 0]).packet.payload = [0x03, 0] ∧ (packet 1 [0x03, 0]).pos = 0 ∧ (packet 1 [0x03, 0]).executed = 0
    ∧ (running 1 [0x03, 1, 0]).standsAt 0x03 1 (packet 1 [0x03, 1, 0]) [0]
    ∧ sends base 0x21 9 ∧ base.holds 0x21 1 :=
  ⟨running_stands 1 3 [] [] (by decide), rfl, rfl, rfl, running_stands 1 3 [0] [] (by decide),
    by unfold sends; decide +kernel, by decide +kernel⟩

/-- A packet whose read data so far is `n` bytes. -/
def reading (n : Nat) (e : Fin 4) (payload : List Byte) : Executing := { packet e payload with readData := List.replicate n 0 }

theorem witness_IdentifyReportsThePart :
    (running 1 [0x04, 0]).standsAt 0x04 1 (packet 1 [0x04, 0]) [] ∧ (packet 1 [0x04, 0]).hasRoom 13
    ∧ (({ base with engine := .executing (reading 188 1 [0x04, 0]) } : State).standsAt 0x04 1 (reading 188 1 [0x04, 0]) [])
    ∧ ¬ (reading 188 1 [0x04, 0]).hasRoom 13 ∧ (reading 187 1 [0x04, 0]).hasRoom 13 := by decide +kernel

theorem witness_CloseSessionRepliesAndEnds :
    (running 1 [0x02, 0, 0x03, 0]).standsAt 0x02 1 (packet 1 [0x02, 0, 0x03, 0]) [] :=
  running_stands 1 2 [] [0x03, 0] (by decide)

theorem witness_ReadStatusReportsAndClears :
    (running 0 [0x05, 1, 1]).standsAt 0x05 0 (packet 0 [0x05, 1, 1]) [1] ∧ (packet 0 [0x05, 1, 1]).hasRoom 25
    ∧ ((running 0 [0x05, 1, 1]).session 0).role = .control
    ∧ (running 1 [0x05, 1, 0]).standsAt 0x05 1 (packet 1 [0x05, 1, 0]) [0]
    ∧ (¬ (reading 176 0 [0x05, 1, 1]).hasRoom 25 ∧ (reading 175 0 [0x05, 1, 1]).hasRoom 25
      ∧ ({ base with engine := .executing (reading 176 0 [0x05, 1, 1]) } : State).standsAt 0x05 0
        (reading 176 0 [0x05, 1, 1]) [1]) :=
  ⟨running_stands 0 5 [1] [] (by decide), by decide, rfl, running_stands 1 5 [0] [] (by decide),
    by decide +kernel⟩

/-- Both ends of the ranges of the fallback period and the frame watchdog. -/
theorem witness_DeviceSettingsAreReplacedTogether :
    (running 0 [0x06, 6, 1, 0, 0, 0x27, 0x10, 20]).standsAt 0x06 0 (packet 0 [0x06, 6, 1, 0, 0, 0x27, 0x10, 20])
      [1, 0, 0, 0x27, 0x10, 20]
    ∧ operandsInRange .deviceSettings [1, 0, 0, 0x27, 0x10, 20] = true
    ∧ operandsInRange .deviceSettings [0, 0, 1, 0x86, 0xA0, 250] = true
    ∧ operandsInRange .deviceSettings [0, 0, 1, 0x86, 0xA1, 250] = false
    ∧ ((running 0 []).session 0).role = .control :=
  ⟨running_stands 0 6 [1, 0, 0, 0x27, 0x10, 20] [] (by decide), by decide +kernel⟩

theorem witness_ResetDeviceTakesTheValuesOfTable47 :
    (running 0 [0x07, 0]).standsAt 0x07 0 (packet 0 [0x07, 0]) [] ∧ ((running 0 [0x07, 0]).session 0).role = .control :=
  ⟨running_stands 0 7 [] [] (by decide), rfl⟩

/-- A CLIENT meets each CONTROL-only command; each staged command meets a pending commit. -/
theorem witness_RolesAndSealingAreChecked :
    (meets 1 .deviceSettings 0x06 [1, 0, 0, 0x27, 0x10, 20] ∧ meets 1 .resetDevice 0x07 []
      ∧ meets 1 .writeGlyphRows 0x30 [7, 255, 31, 1, 3, 0, 0, 0, 0] ∧ meets 1 .clearBank 0x31 [7]
      ∧ meets 1 .setPalette 0x40 [3, 15, 0] ∧ meets 1 .setColours 0x41 [255, 1, 2, 3, 8]
      ∧ meets 1 .setOptions 0x42 [120, 0, 0, 0, 0] ∧ meets 1 .readStatus 0x05 [1])
    ∧ ((running 1 []).session 1).role = .client
    ∧ (meets 0 .openSessionCommand 0x01 [1, 0, 60] ∧ meets 1 .syncCommit 0x52 [0, 0])
    ∧ (pendingCommit (running 1 [0x10, 0])).standsAt 0x10 1 (packet 1 [0x10, 0]) []
    ∧ (pendingCommit (running 0 [0x42, 5, 2, 0, 0, 0, 0])).standsAt 0x42 0 (packet 0 [0x42, 5, 2, 0, 0, 0, 0]) [2, 0, 0, 0, 0]
    ∧ (pendingCommit (running 1 [0x50, 3, 1, 0, 9])).standsAt 0x50 1 (packet 1 [0x50, 3, 1, 0, 9]) [1, 0, 9]
    ∧ ((pendingCommit (running 0 [])).session 0).role = .control
    ∧ (pendingCommit (running 0 [])).scene.commit.pending = true := by
  refine ⟨⟨?_, ?_, ?_, ?_, ?_, ?_, ?_, ?_⟩, rfl, ⟨?_, ?_⟩, by decide +kernel, by decide +kernel, by decide +kernel, rfl, rfl⟩ <;>
    exact meets_of_range (by decide)

theorem witness_ClaimTakesTheLowestUnclaimedSlot :
    let claims := running 1 [0x10, 0]
    let all : State := claims.setStaged { claims.scene.staged with windows := Vector.replicate 8 (some (record 0)) }
    (claims.standsAt 0x10 1 (packet 1 [0x10, 0]) [] ∧ claims.scene.commit.pending = false
      ∧ claims.scene.staged.windows[(0 : Fin 8)] = none ∧ (packet 1 [0x10, 0]).hasRoom 1)
    ∧ (all.standsAt 0x10 1 (packet 1 [0x10, 0]) [] ∧ ∀ k : Fin 8, all.scene.staged.windows[k] ≠ none)
    ∧ ¬ (reading 200 1 [0x10, 0]).hasRoom 1 := by decide +kernel

theorem witness_WindowChecksComeInOrder :
    let hides (e : Fin 4) : State := withSlot 0 (running e [0x1B, 1, 2])
    (Instr.hideWindow, 0x1B) ∈ slotCommands ∧ windowOperandsInRange .hideWindow [2] = true ∧ (2 : Byte).toNat = (2 : Fin 8).1
    ∧ ((running 1 [0x1B, 1, 2]).standsAt 0x1B 1 (packet 1 [0x1B, 1, 2]) [2]
      ∧ (running 1 [0x1B, 1, 2]).scene.staged.windows[(2 : Fin 8)] = none)
    ∧ ((hides 1).standsAt 0x1B 1 (packet 1 [0x1B, 1, 2]) [2] ∧ (hides 1).scene.staged.windows[(2 : Fin 8)] = some (record 0)
      ∧ ((hides 1).session 1).role = .client ∧ (record 0).owner ≠ 1)
    ∧ ((pendingCommit (hides 0)).session 0).role = .control ∧ (pendingCommit (hides 0)).scene.commit.pending = true := by
  decide +kernel

theorem witness_StagedOrderFollowsItsCommands :
    let shown : State := (withSlot 1 (running 1 [0x1A, 3, 2, 2, 7])).setStaged
      { (withSlot 1 (running 1 [])).scene.staged with order := [4, 7] }
    shown.mayEdit 1 2 (record 1) ∧ (2 : Byte).toNat = (2 : Fin 8).1 ∧ (7 : Byte).toNat = (7 : Fin 8).1
    ∧ shown.standsAt 0x1A 1 (packet 1 [0x1A, 3, 2, 2, 7]) [2, 2, 7] ∧ (7 : Fin 8) ≠ 2
    ∧ shown.scene.staged.order.filter (fun k => decide (k ≠ 2)) = [4] ++ 7 :: [] ∧ (7 : Fin 8) ∉ [4]
    ∧ (7 : Fin 8) ∉ (withSlot 1 (running 1 [])).scene.staged.order := by decide +kernel

/-- The operands at the ends of their ranges, and the record checks on both sides of their edges: a footprint of 2304 lines,
the last row a split may have, and the fine scroll. -/
theorem witness_RecordCommandsWriteTheirFields :
    meetsSlot .setWindow 0x12 [2, 0x0F, 0xFF, 0x08, 0xFF, 160, 72, 16, 32, 160, 0x3F, 0xFF, 31, 7, 7, 3, 3, 31]
    ∧ meetsSlot .setWindow 0x12 [2, 0, 0, 0, 0, 1, 71, 4, 32, 1, 0, 0, 0, 0, 0, 0, 0, 0]
    ∧ meetsSlot .moveWindow 0x13 [2, 0x0F, 0xFF, 0x08, 0xFF]
    ∧ meetsSlot .setScroll 0x14 [2, 0x3F, 0xFF, 15] ∧ meetsSlot .setScroll 0x14 [2, 0x3F, 0xFF, 16]
    ∧ meetsSlot .setCursor 0x15 [2, 0x3F, 0xFF, 31, 31, 1] ∧ meetsSlot .setBorder 0x16 [2, 8, 0]
    ∧ meetsSlot .setKey 0x17 [2, 0, 0, 0, 0, 0, 0, 1] ∧ meetsSlot .setSplit 0x18 [2, 1, 0x3F, 0xFF]
    ∧ meetsSlot .clearPart 0x19 [2, 0] ∧ meetsSlot .clearPart 0x19 [2, 1] ∧ meetsSlot .clearPart 0x19 [2, 2]
    ∧ meetsSlot .clearPart 0x19 [2, 3] := by
  refine ⟨?_, ?_, ?_, ?_, ?_, ?_, ?_, ?_, ?_, ?_, ?_, ?_, ?_⟩ <;> exact meetsSlot_of_range (by decide)

theorem witness_record_checks :
    ((record 1).border = some ⟨2, 5⟩ ∧ 72 * 32 + 2 * 2 > 2304 ∧ 71 * 32 + 2 * 2 ≤ 2304)
    ∧ (15 < (record 1).cellHeight ∧ (record 1).cellHeight ≤ 16)
    ∧ ((record 1).rows * (record 1).cellHeight + 2 * 8 ≤ 2304 ∧ 2304 < 72 * 32 + 2 * 8)
    ∧ ((record 1).rows - 1 < 1 ∧ ({ record 1 with rows := 2 } : WindowRecord).rows - 1 = 1) := by decide +kernel

theorem witness_ReadsReportWhatStands :
    meets 1 .readOrder 0x1D [1] ∧ meets 1 .readWindow 0x1C [1, 7] ∧ meets 1 .readPalette 0x43 [0, 3]
    ∧ meets 1 .readColours 0x44 [1, 206, 50] ∧ meets 1 .readCells 0x23 [0x3F, 0xFF, 64] ∧ meets 1 .readGlyph 0x32 [7, 255]
    ∧ operandsInRange .readColours [1, 207, 50] = false
    ∧ (withSlot 1 base).scene.live.windows[(2 : Fin 8)] = some (record 1)
    ∧ base.scene.live.windows[(7 : Fin 8)] = none
    ∧ (packet 0 []).hasRoom 200 ∧ ¬ (reading 1 0 []).hasRoom 200 := by
  refine ⟨?_, ?_, ?_, ?_, ?_, ?_, by decide +kernel⟩ <;> exact meets_of_range (by decide)

/-- A CLIENT inside its window's two rows of one cell, and one cell beyond them. -/
theorem witness_WriteCellsStaysInItsExtents :
    let writes := withSlot 1 (running 1 [0x20, 6, 0, 1, 0x0F, 0x41, 0x72, 0x05])
    writes.standsAt 0x20 1 (packet 1 [0x20, 6, 0, 1, 0x0F, 0x41, 0x72, 0x05]) [0, 1, 0x0F, 0x41, 0x72, 0x05]
    ∧ operandsInRange .writeCells [0, 1, 0x0F, 0x41, 0x72, 0x05] = true
    ∧ writes.mayWrite 1 [1] ∧ ¬ writes.mayWrite 1 [2] ∧ writes.comp.owed = [] ∧ StoresCanonical writes := by
  refine ⟨?_, ?_, ?_, ?_, ?_, empty_stores_are_canonical rfl rfl⟩ <;> decide +kernel

theorem witness_LongCommandsBeginTheirSteps :
    meets 1 .fillCells 0x21 [0x3F, 0xFF, 0x40, 0x00, 0x0F, 0, 0, 0x0F] ∧ meets 0 .copyCells 0x22 [0, 0, 1, 0, 0, 255, 160, 120]
    ∧ meets 1 .findCells 0x24 [0, 0, 0x40, 0x00, 0, 0, 0x0F, 0x0F] ∧ meets 0 .clearBank 0x31 [7]
    ∧ ((running 0 []).session 0).role = .control
    ∧ (withSlot 1 base).mayWrite 1 [0, 1] ∧ ¬ (withSlot 1 base).mayWrite 1 [1, 2]
    ∧ (reading 196 1 []).hasRoom 4 ∧ ¬ (reading 197 1 []).hasRoom 4 := by
  refine ⟨?_, ?_, ?_, ?_, by decide +kernel⟩ <;> exact meets_of_range (by decide)

theorem witness_GlyphRowsCombineDotByDot :
    (running 0 [0x30, 9, 7, 0xFF, 31, 1, 3, 0xFF, 0x00, 0x81, 0x42]).standsAt 0x30 0
      (packet 0 [0x30, 9, 7, 0xFF, 31, 1, 3, 0xFF, 0x00, 0x81, 0x42]) [7, 0xFF, 31, 1, 3, 0xFF, 0x00, 0x81, 0x42]
    ∧ StoresCanonical (running 0 [0x30, 9, 7, 0xFF, 31, 1, 3, 0xFF, 0x00, 0x81, 0x42])
    ∧ operandsInRange .writeGlyphRows [7, 0xFF, 31, 1, 3, 0xFF, 0x00, 0x81, 0x42] = true
    ∧ ((running 0 []).session 0).role = .control
    ∧ ((0xFF : Byte) ++ (0x00 : Byte) : Word).getLsbD 8 = true
    ∧ ((0xFF : Byte) ++ (0x00 : Byte) : Word).getLsbD 7 = false :=
  ⟨running_stands 0 0x30 [7, 0xFF, 31, 1, 3, 0xFF, 0x00, 0x81, 0x42] [] (by decide), empty_stores_are_canonical rfl rfl,
    by decide +kernel⟩

theorem witness_ColourCommandsWriteStaging :
    meets 0 .setPalette 0x40 [3, 15, 0] ∧ meets 0 .setColours 0x41 [255, 1, 2, 3, 8] ∧ meets 0 .setOptions 0x42 [2, 0, 0, 0, 0]
    ∧ operandsInRange .setPalette [3, 15, 0, 0] = false ∧ ((running 0 []).session 0).role = .control
    ∧ (running 0 []).scene.commit.pending = false := by
  refine ⟨?_, ?_, ?_, by decide +kernel⟩ <;> exact meets_of_range (by decide)

theorem witness_CommitDiscardAndSyncSetTheRecord :
    let sync (payload : List Byte) : State := { base with engine := .executing (broadcast payload) }
    ((running 1 [0x50, 3, 1, 0, 9]).standsAt 0x50 1 (packet 1 [0x50, 3, 1, 0, 9]) [1, 0, 9]
      ∧ (running 1 []).scene.commit.pending = false)
    ∧ (pendingCommit (running 1 [0x51, 0])).standsAt 0x51 1 (packet 1 [0x51, 0]) []
    ∧ (sync [0x52, 2, 0, 9]).broadcastAt 0x52 (broadcast [0x52, 2, 0, 9]) [0, 9]
    ∧ (sync [0x52, 1, 0]).broadcastAt 0x52 (broadcast [0x52, 1, 0]) [0]
    ∧ (broadcast [0x52, 0]).rest = 0x52 :: [0] ∧ (broadcast [0x03, 0]).rest.head? ≠ some 0x52 := by decide +kernel

theorem witness_ScenesAndStoresChangeAtTheirRows :
    (pendingCommit base).settled ∧ (pendingCommit base).scene.commit.pending = true
    ∧ ∃ t, exec .keepalive (pendingCommit base) = .next t := ⟨by decide +kernel, rfl, _, rfl⟩

theorem witness_StepsKeepTheQueuesAndStores :
    (∃ t, step base = .next t) ∧ QueueBounds base ∧ EngineLaw base ∧ StoresCanonical base ∧ LongInRange base := by
  refine ⟨⟨_, rfl⟩, ?_, rfl, empty_stores_are_canonical rfl rfl, fun _ h => nomatch h⟩
  unfold QueueBounds
  decide +kernel

theorem base_unclaimed : ∀ k : Fin 8, base.scene.staged.windows[k] = none ∧ base.scene.live.windows[k] = none := by
  decide +kernel

theorem witness_StepsKeepTheSessionsAndOwners : SessionLaw base ∧ OwnerLaw base := by
  refine ⟨?_, ?_, ?_, nofun, nofun, nofun⟩
  · unfold SessionLaw
    decide +kernel
  · intro k r h
    rw [(base_unclaimed k).1] at h
    cases h
  · intro k r h
    rw [(base_unclaimed k).2] at h
    cases h

theorem reset_scene_in_range : RecordsLaw Scene.reset ∧ OrderLaw Scene.reset ∧ ColourLaw Scene.reset := by
  refine ⟨?_, ⟨by decide, .nil, nofun⟩, ?_, by decide, by decide⟩
  · intro k r h
    rw [show Scene.reset.windows[k] = none from (base_unclaimed k).1] at h
    cases h
  · intro i
    simp [Scene.reset]

theorem witness_StepsKeepTheScenesInRange :
    (RecordsLaw base.scene.staged ∧ OrderLaw base.scene.staged ∧ ColourLaw base.scene.staged)
    ∧ RecordsLaw base.scene.live ∧ OrderLaw base.scene.live ∧ ColourLaw base.scene.live :=
  ⟨reset_scene_in_range, reset_scene_in_range⟩

theorem witness_StepsKeepTheModeAndWatchdog :
    ModeLaw (locked .afterFE base) ∧ WatchdogLaw base ∧ UnitLaw base ∧ ModeLaw (generating .start) := by
  unfold ModeLaw WatchdogLaw UnitLaw
  decide +kernel

end Sys2Proof.Tests
end

namespace Sys2Proof.Machine

/-! ### The reset values (R21, R116, R144, 8.1) -/

theorem scene_reset_atReset : Scene.reset.atReset := by
  refine ⟨?_, rfl, ?_, ?_, rfl, rfl, rfl⟩ <;> simp [Scene.reset, RGB.black]

/-- What hard reset keeps (log entry 8) is none of the reset values. -/
theorem hardReset_atHardReset (unit : Byte) (cells : Store Cell) (glyphs : Store Word) (draws : Nat)
    (pending : List Instr) :
    State.atHardReset { State.reset with
      unitAddress := unit, cells := cells, glyphs := glyphs, draws := draws, pending := pending } := by
  refine ⟨rfl, scene_reset_atReset, scene_reset_atReset, rfl, rfl, rfl, rfl, ?sessions, rfl, rfl, rfl, rfl, rfl,
    rfl, rfl, rfl, rfl, rfl, rfl, rfl, ?caches, ?rows, rfl, rfl, rfl, rfl, rfl⟩
  case sessions => simp [State.session, State.reset, closedEntry, Session.closed]
  case caches => simp [State.reset, Compositor.reset]
  case rows => simp [State.reset, Compositor.reset]

/-- Settles O4: hard reset is the state after reset with the stores and the unit address as they stand. -/
theorem hardResetTakesTheResetValues : Obligations.HardResetTakesTheResetValues := by
  refine ⟨hardReset_atHardReset 0x80 [] [] 0 [], fun s => ?_⟩
  exact ⟨_, rfl, hardReset_atHardReset .., rfl, rfl, rfl⟩

theorem reset_session (e : Fin 4) : State.reset.session e = Session.closed := by
  simp [State.session, State.reset]

theorem scene_reset_unclaimed (k : Fin 8) : Scene.reset.windows[k] = none := scene_reset_atReset.1 k

theorem scene_reset_laws : RecordsLaw Scene.reset ∧ OrderLaw Scene.reset ∧ ColourLaw Scene.reset := by
  refine ⟨fun k r h => ?records, ⟨Nat.zero_le _, .nil, nofun⟩, fun i => ?coverage, by decide, by decide⟩
  case records => exact absurd ((scene_reset_unclaimed k).symm.trans h) nofun
  case coverage => simp [Scene.reset]

theorem reset_sessionLaw : SessionLaw State.reset := by
  simp [SessionLaw, reset_session, State.clientCount, Session.closed]

theorem reset_ownerLaw : OwnerLaw State.reset := by
  have unclaimed (k : Fin 8) (r : WindowRecord) (h : Scene.reset.windows[k] = some r) : False :=
    absurd ((scene_reset_unclaimed k).symm.trans h) nofun
  exact ⟨fun k r h => (unclaimed k r h).elim, fun k r h => (unclaimed k r h).elim, nofun, nofun, nofun⟩

theorem reset_modeLaw : ModeLaw State.reset := by
  unfold ModeLaw
  decide

/-- Settles O60. -/
theorem resetKeepsTheLaws : Obligations.ResetKeepsTheLaws := by
  refine ⟨⟨by decide, by decide⟩, rfl, ⟨by decide, by decide⟩, nofun, reset_sessionLaw, reset_ownerLaw,
    scene_reset_laws, scene_reset_laws, reset_modeLaw, fun _ => rfl, by decide, by decide⟩

/-! ### The due test (R9) -/

/-- A commit for target `T` is due at counter `C` exactly when `C - T` lies in the lower half of the circle. -/
theorem commitDue_at_iff (target counter : Word) :
    commitDue .at target counter = true ↔ (counter - target).toNat < 32768 := by simp [commitDue]

/-- The distance past the target, `n` frame starts after `start`. -/
theorem toNat_add_sub (target start : Word) (n : Nat) (hn : n < 65536) :
    (start + BitVec.ofNat 16 n - target).toNat = (n + 65536 - (target - start).toNat) % 65536 := by
  have ht := target.isLt
  have hs := start.isLt
  simp only [BitVec.toNat_sub, BitVec.toNat_add, BitVec.toNat_ofNat]
  omega

/-- Settles O30: the wait is the distance to the target where that lies in 1 to 32769. -/
theorem commitWaitsForItsTarget : Obligations.CommitWaitsForItsTarget := by
  refine ⟨fun _ _ => rfl, fun target start => ?_⟩
  intro distance wait
  have hd : distance < 65536 := (target - start).isLt
  have hwait : (1 ≤ distance ∧ distance ≤ 32769 ∧ wait = distance)
      ∨ ((distance = 0 ∨ 32769 < distance) ∧ wait = 1) := by
    simp only [wait]
    split_ifs <;> omega
  have due_iff (n : Nat) (hn : n < 65536) : commitDue .at target (start + BitVec.ofNat 16 n) = true
      ↔ (n + 65536 - distance) % 65536 < 32768 := by
    rw [commitDue_at_iff, toNat_add_sub target start n hn]
  refine ⟨(due_iff wait (by omega)).2 (by omega), fun k hk hlt => ?_⟩
  rw [← Bool.not_eq_true, due_iff k (by omega)]
  omega

end Sys2Proof.Machine

namespace Sys2Proof.Machine

/-! ### Taking listed slots out of a scene (R13, R10) -/

/-- Releasing a list of slots touches nothing but the Window Table, and filters the Order once. -/
theorem foldl_release_eq (slots : List (Fin 8)) (sc : Scene) :
    slots.foldl Scene.release sc = { sc with
      windows := (slots.foldl Scene.release sc).windows
      order := sc.order.filter fun k => decide (k ∉ slots) } := by
  induction slots generalizing sc with
  | nil => simp
  | cons slot rest ih =>
    rw [List.foldl_cons, ih]
    simp [Scene.release, List.filter_filter, Bool.and_comm]

theorem release_window (sc : Scene) (slot k : Fin 8) :
    (sc.release slot).windows[k] = if k = slot then none else sc.windows[k] := by
  simp [Scene.release, Vector.getElem_set, Fin.ext_iff, eq_comm]

theorem foldl_release_window (slots : List (Fin 8)) (sc : Scene) (k : Fin 8) :
    (slots.foldl Scene.release sc).windows[k] = if k ∈ slots then none else sc.windows[k] := by
  induction slots generalizing sc with
  | nil => simp
  | cons slot rest ih =>
    rw [List.foldl_cons, ih, release_window]
    by_cases hr : k ∈ rest <;> by_cases hk : k = slot <;> simp [hr, hk]

@[simp] theorem foldl_release_blinkPeriod (slots : List (Fin 8)) (sc : Scene) :
    (slots.foldl Scene.release sc).blinkPeriod = sc.blinkPeriod := by rw [foldl_release_eq]

/-! ### The stages of a composited frame start (R12 to R14) -/

theorem exec_applyTeardown (s : State) :
    exec .applyTeardown s = .next (if s.scene.stage = .teardownDue then teardownStage s.quiet else s.quiet) := rfl

theorem exec_applyCommit (s : State) : exec .applyCommit s = .next (finishScene s.quiet) := rfl

/-- Settles O28: stage 2 folds the release of a slot over the teardown list. -/
theorem teardownStageRemovesListedWindows : Obligations.TeardownStageRemovesListedWindows := by
  intro s
  rw [exec_applyTeardown]
  refine ⟨fun hstage => by rw [if_neg hstage], fun hstage => ⟨_, rfl, ?_⟩⟩
  rw [if_pos hstage]
  refine ⟨?state, foldl_release_window s.scene.teardown s.scene.live⟩
  case state =>
    have hlive := foldl_release_eq s.scene.teardown s.scene.live
    cases hlist : s.scene.teardown with
    | nil => simp [teardownStage, hlist]
    | cons slot rest =>
      rw [hlist] at hlive
      simp only [teardownStage, hlist, State.quiet]
      rw [hlive]
      simp

theorem finishScene_settled (s : State) (h : s.scene.stage = .settled) : finishScene s = s := by
  simp [finishScene, h]

theorem finishScene_teardownDue (s : State) (h : s.scene.stage = .teardownDue) :
    finishScene s = finishScene (teardownStage s) := by
  simp [finishScene, h, teardownStage]

theorem finishScene_commitDue (advanced : Bool) (s : State) (h : s.scene.stage = .commitDue advanced) :
    finishScene s = commitStage advanced s := by
  simp [finishScene, h]

/-- R9: a pending commit is due at the advanced counter. -/
def SceneStore.commitIsDue (sc : SceneStore) : Prop :=
  sc.commit.pending = true
    ∧ (sc.commit.mode = .next ∨ (sc.frameCounter - sc.commit.target).toNat < 32768)

theorem commitIsDue_iff (sc : SceneStore) :
    sc.commitIsDue ↔ (sc.commit.pending && commitDue sc.commit.mode sc.commit.target sc.frameCounter) = true := by
  cases hm : sc.commit.mode <;> simp [SceneStore.commitIsDue, commitDue, hm]

/-- R14, R5, R3: the Scene Store with a due commit applied; `advanced` says whether stage 2 advanced the epoch. -/
def SceneStore.committed (sc : SceneStore) (advanced : Bool) : SceneStore :=
  { sc with
    live := sc.staged, commit := CommitRecord.clear, epoch := if advanced then sc.epoch else sc.epoch + 1
    stage := .settled }

theorem commitStage_of_not_due (advanced : Bool) (s : State) (h : ¬ s.scene.commitIsDue) :
    commitStage advanced s = { s with scene := { s.scene with stage := .settled } } := by
  rw [commitIsDue_iff] at h
  exact if_neg h

/-- A due commit is applied whole, and then its issuer is told (R15). -/
theorem commitStage_of_due (advanced : Bool) (s : State) (h : s.scene.commitIsDue) :
    commitStage advanced s =
      match s.scene.commit.issuer with
      | none => { s with scene := s.scene.committed advanced }
      | some e => offerNotice e
          (committedPayload (if advanced then s.scene.epoch else s.scene.epoch + 1) s.scene.frameCounter)
          { s with scene := s.scene.committed advanced } := by
  rw [commitIsDue_iff] at h
  unfold commitStage
  dsimp only
  rw [if_pos h]
  cases s.scene.commit.issuer <;> rfl

/-- Settles O29. -/
theorem commitStageMakesStagingLive : Obligations.CommitStageMakesStagingLive := by
  intro s
  simp only [exec_applyCommit, exec_applyTeardown]
  refine ⟨fun hstage => ?settled, fun u hstage hu => ?teardownDue, fun advanced hstage => ?commitDue⟩
  case settled => rw [finishScene_settled s.quiet hstage]
  case teardownDue =>
    rw [if_pos hstage] at hu
    cases hu
    rw [finishScene_teardownDue s.quiet hstage]
    rfl
  case commitDue =>
    rw [finishScene_commitDue advanced s.quiet hstage]
    refine ⟨fun hdue => ?notDue, fun hdue hissuer => ?nobody, fun e hdue hissuer hopen => ?told⟩
    case notDue => rw [commitStage_of_not_due advanced s.quiet hdue]; rfl
    case nobody =>
      rw [commitStage_of_due advanced s.quiet hdue]
      rcases hissuer with hnone | ⟨e, hsome, hclosed⟩
      · simp only [quiet_scene, hnone]
        rfl
      · simp only [quiet_scene, hsome]
        rw [offerNotice_closed]
        · rfl
        · exact hclosed
    case told =>
      rw [commitStage_of_due advanced s.quiet hdue]
      simp only [quiet_scene, hissuer]
      let applied : State := { s.quiet with scene := s.scene.committed advanced }
      refine ⟨_, rfl, ?_, ?_, ?_, ?_, ?_, offerNotice_offered e _ applied hopen⟩ <;> simp
      rfl

/-! ### COMMIT, DISCARD and SYNC COMMIT (R8, R10, R11) -/

theorem nextHead_eq (q : List Packet) : nextHead q = if q = [] then .idle else .testing := by
  cases q <;> rfl

/-- R10: staging becomes the live scene less the slots that await teardown. -/
theorem discardScene_eq (sc : SceneStore) :
    discardScene sc = { sc with
      staged := { sc.live with
        windows := (discardScene sc).staged.windows
        order := sc.live.order.filter fun k => decide (k ∉ sc.teardown) }
      commit := ⟨false, .next, 0, none⟩ } := by
  unfold discardScene
  rw [foldl_release_eq]
  rfl

theorem discardScene_staged_window (sc : SceneStore) (k : Fin 8) :
    (discardScene sc).staged.windows[k] = if k ∈ sc.teardown then none else sc.live.windows[k] :=
  foldl_release_window sc.teardown sc.live k

/-- R11: the SYNC COMMIT of a broadcast packet sets the record and goes on. -/
theorem syncCommit_of_target (s : State) (x : Executing) (th tl : Byte) (h : s.broadcastAt 0x52 x [th, tl]) :
    syncCommit s = carryOnBroadcast (x.after [])
      { s.quiet with scene := { s.scene with commit := syncRecord (th ++ tl) s.scene.commit } } := by
  obtain ⟨hs, he, hp, hl, hc, ho⟩ := h
  simp [syncCommit, ready_of_settled s hs, he, hl, hc, codeSyncCommit, hp, ho]

/-- R167: a broadcast SYNC COMMIT with wrong operands stops its packet silently. -/
theorem syncCommit_of_wrong_length (s : State) (x : Executing) (ops : List Byte) (h : s.broadcastAt 0x52 x ops)
    (hlen : ops.length ≠ 2) : syncCommit s = { s.quiet with engine := nextHead s.commandQueue } := by
  obtain ⟨hs, he, hp, hl, hc, ho⟩ := h
  simp only [syncCommit, ready_of_settled s hs, quiet_engine, he, hl, hc, codeSyncCommit, hp, ho, and_self, if_true]
  split
  · next th tl hops =>
    cases hops
    exact absurd rfl hlen
  · rfl

theorem carryOnBroadcast_of_sync (x : Executing) (s : State) (tail : List Byte) (h : x.rest = 0x52 :: tail) :
    carryOnBroadcast x s = { s with engine := .executing x } := by
  simp [carryOnBroadcast, h, codeSyncCommit]

theorem carryOnBroadcast_of_other (x : Executing) (s : State) (h : x.rest.head? ≠ some 0x52) :
    carryOnBroadcast x s = { s with engine := nextHead s.commandQueue } := by
  unfold carryOnBroadcast
  split
  · next code tail hrest =>
    have hcode : code ≠ codeSyncCommit := fun hc => h (by rw [hrest, hc]; rfl)
    rw [if_neg hcode]
  · rfl

/-- Settles O54. -/
theorem commitDiscardAndSyncSetTheRecord : Obligations.CommitDiscardAndSyncSetTheRecord := by
  have hcommit (s : State) : exec .commit s = .next (runCommand codeCommit commit s) := rfl
  have hdiscard (s : State) : exec .discard s = .next (runCommand codeDiscard discard s) := rfl
  have hsync (s : State) : exec .syncCommit s = .next (syncCommit s) := rfl
  refine ⟨fun s e x mode th tl hat hopen => ?commit, fun s e x hat => ?discard, fun s x th tl hat => ?sync,
    fun s x ops hat hlen => ?wrongOperand, fun x s => ⟨carryOnBroadcast_of_sync x s, fun hhead => ?other⟩⟩
  case commit =>
    rw [hcommit, runCommand_of_standsAt codeCommit commit s e x _ hat]
    constructor
    · rintro rfl
      simp [commit, commitModeOf, hopen, conclude_done]
    · rintro rfl
      simp [commit, commitModeOf, hopen, conclude_done]
  case discard =>
    rw [hdiscard, runCommand_of_standsAt codeDiscard discard s e x [] hat]
    exact ⟨{ s.quiet with scene := discardScene s.scene }, rfl,
      congrArg (fun sc => { s.quiet with scene := sc }) (discardScene_eq s.scene),
      discardScene_staged_window s.scene⟩
  case sync =>
    rw [hsync, syncCommit_of_target s x th tl hat]
    cases hp : s.scene.commit.pending
    · simp [syncRecord, hp]
    · simp only [syncRecord, hp, if_true]
      rfl
  case wrongOperand => rw [hsync, syncCommit_of_wrong_length s x ops hat hlen, nextHead_eq]
  case other => rw [carryOnBroadcast_of_other x s hhead, nextHead_eq]

end Sys2Proof.Machine

namespace Sys2Proof.Machine

/-! ### The ends owed to a frame start (R155) -/

theorem expiringEntries_congr (s t : State) (h : ∀ a, (t.session a).expiring = (s.session a).expiring) :
    t.expiringEntries = s.expiringEntries := by simp [State.expiringEntries, h]

theorem expiringEntries_of_sessions (s t : State) (h : t.sessions = s.sessions) :
    t.expiringEntries = s.expiringEntries :=
  expiringEntries_congr s t fun a => by rw [session_congr t s h]

/-- A write to an entry that changes neither its state, its idle count nor its limit leaves the ends owed as they are. -/
theorem expiringEntries_setSession (s : State) (e : Fin 4) (v : Session)
    (h : v.expiring = (s.session e).expiring) : (s.setSession e v).expiringEntries = s.expiringEntries := by
  refine expiringEntries_congr _ _ fun a => ?_
  by_cases ha : a = e
  · rw [ha, session_setSession_same, h]
  · rw [session_setSession_other s e a v ha]

@[simp] theorem offerNotice_expiringEntries (e : Fin 4) (p : List Byte) (s : State) :
    (offerNotice e p s).expiringEntries = s.expiringEntries := by
  have hc : (contestEntry s).expiringEntries = s.expiringEntries := expiringEntries_of_sessions _ _ (by simp)
  unfold offerNotice
  dsimp only
  split_ifs
  · exact (expiringEntries_of_sessions _ _ (by simp)).trans hc
  · refine (expiringEntries_setSession _ e _ ?_).trans hc
    rfl
  · rfl

@[simp] theorem reportLockChange_expiringEntries (s : State) :
    (reportLockChange s).expiringEntries = s.expiringEntries := by
  unfold reportLockChange
  split <;> simp

@[simp] theorem offerSessionEnded_expiringEntries (p : Byte) (s : State) :
    (offerSessionEnded p s).expiringEntries = s.expiringEntries := by
  unfold offerSessionEnded
  split <;> simp

@[simp] theorem offerOwedNotices_expiringEntries (s : State) :
    (offerOwedNotices s).expiringEntries = s.expiringEntries :=
  foldl_keeps State.expiringEntries _ (fun _ _ => by simp) s.expired s

@[simp] theorem offerSome_expiringEntries (owed : List Byte) (s : State) :
    (offerSome owed s).expiringEntries = s.expiringEntries := by
  induction owed generalizing s with
  | nil => rfl
  | cons p rest ih =>
    have hd : s.draw.2.expiringEntries = s.expiringEntries := expiringEntries_of_sessions _ _ rfl
    unfold offerSome
    dsimp only
    split_ifs
    · rw [ih, offerSessionEnded_expiringEntries, hd]
    · rfl

@[simp] theorem commitStage_expiringEntries (advanced : Bool) (s : State) :
    (commitStage advanced s).expiringEntries = s.expiringEntries := by
  by_cases hdue : s.scene.commitIsDue
  · rw [commitStage_of_due advanced s hdue]
    split
    · rfl
    · rw [offerNotice_expiringEntries]
      rfl
  · rw [commitStage_of_not_due advanced s hdue]
    rfl

@[simp] theorem finishScene_expiringEntries (s : State) : (finishScene s).expiringEntries = s.expiringEntries := by
  unfold finishScene
  split
  · rfl
  · rw [commitStage_expiringEntries]
    rfl
  · exact commitStage_expiringEntries _ s

@[simp] theorem blinkCompare_expiringEntries (s : State) :
    (blinkCompare s).expiringEntries = s.expiringEntries := expiringEntries_of_sessions _ _ (by simp)

@[simp] theorem endSession_sessions (e : Fin 4) (s : State) :
    (endSession e s).sessions = s.sessions.set e Session.closed := rfl

/-- An entry that ends is no longer owed an end; the others still are. -/
theorem expireEntry_expiringEntries (e : Fin 4) (s : State) :
    (expireEntry e s).expiringEntries = s.expiringEntries.filter fun a => decide (a ≠ e) := by
  have hsession (a : Fin 4) : (expireEntry e s).session a = if a = e then Session.closed else s.session a := by
    simp [State.session, expireEntry, Vector.getElem_set, Fin.ext_iff, eq_comm]
  have hclosed : Session.closed.expiring = false := rfl
  unfold State.expiringEntries
  rw [List.filter_filter]
  congr 1
  funext a
  rw [hsession]
  by_cases ha : a = e <;> simp [ha, hclosed]

theorem foldl_expireEntry_expiringEntries (due : List (Fin 4)) (s : State) :
    (due.foldl (fun s e => expireEntry e s) s).expiringEntries
      = s.expiringEntries.filter fun a => decide (a ∉ due) := by
  induction due generalizing s with
  | nil => simp
  | cons e rest ih =>
    rw [List.foldl_cons, ih, expireEntry_expiringEntries, List.filter_filter]
    simp [Bool.and_comm]

@[simp] theorem endExpired_expiringEntries (s : State) : (endExpired s).expiringEntries = [] := by
  unfold endExpired
  rw [foldl_expireEntry_expiringEntries]
  simp

/-! ### The stage of the Scene Store (R12) -/

@[simp] theorem commitStage_stage (advanced : Bool) (s : State) :
    (commitStage advanced s).scene.stage = .settled := by
  by_cases hdue : s.scene.commitIsDue
  · rw [commitStage_of_due advanced s hdue]
    split <;> simp [SceneStore.committed]
  · rw [commitStage_of_not_due advanced s hdue]

@[simp] theorem finishScene_stage (s : State) : (finishScene s).scene.stage = .settled := by
  unfold finishScene
  split
  · assumption
  · exact commitStage_stage ..
  · exact commitStage_stage ..

@[simp] theorem endExpired_stage (s : State) : (endExpired s).scene.stage = s.scene.stage :=
  foldl_keeps (fun s : State => s.scene.stage) (fun s e => expireEntry e s) (fun _ _ => rfl) s.expiringEntries s

/-! ### The blink periods (R79) -/

/-- The blink periods of both scenes are positive, as R79 has them. -/
def SceneStore.blinks (sc : SceneStore) : Prop := 0 < sc.live.blinkPeriod ∧ 0 < sc.staged.blinkPeriod

theorem endSession_blinks (e : Fin 4) (s : State) (h : s.scene.blinks) : (endSession e s).scene.blinks :=
  ⟨h.1, Nat.lt_of_lt_of_eq h.2 (foldl_release_blinkPeriod _ s.scene.staged).symm⟩

theorem expireEntry_blinks (e : Fin 4) (s : State) (h : s.scene.blinks) : (expireEntry e s).scene.blinks :=
  endSession_blinks e { s with expired := s.expired ++ [(s.session e).peer] } h

theorem endSome_blinks (due : List (Fin 4)) (s : State) (h : s.scene.blinks) : (endSome due s).scene.blinks := by
  induction due generalizing s with
  | nil => exact h
  | cons e rest ih =>
    unfold endSome
    dsimp only
    split_ifs
    · exact ih _ (expireEntry_blinks e s.draw.2 h)
    · exact h

theorem endsBeforeStore_blinks (s : State) (h : s.scene.blinks) : (endsBeforeStore s).scene.blinks := by
  unfold endsBeforeStore
  split
  · exact h
  · exact endSome_blinks _ s h

theorem endExpired_blinks (s : State) (h : s.scene.blinks) : (endExpired s).scene.blinks := by
  unfold endExpired
  generalize s.expiringEntries = due
  induction due generalizing s with
  | nil => exact h
  | cons e rest ih => exact ih _ (expireEntry_blinks e s h)

theorem teardownStage_blinks (s : State) (h : s.scene.blinks) : (teardownStage s).scene.blinks :=
  ⟨Nat.lt_of_lt_of_eq h.1 (foldl_release_blinkPeriod _ s.scene.live).symm, h.2⟩

theorem commitStage_blinks (advanced : Bool) (s : State) (h : s.scene.blinks) :
    (commitStage advanced s).scene.blinks := by
  by_cases hdue : s.scene.commitIsDue
  · have hcommitted : (s.scene.committed advanced).blinks := ⟨h.2, h.2⟩
    rw [commitStage_of_due advanced s hdue]
    split
    · exact hcommitted
    · simpa using hcommitted
  · rw [commitStage_of_not_due advanced s hdue]
    exact h

theorem finishScene_blinks (s : State) (h : s.scene.blinks) : (finishScene s).scene.blinks := by
  unfold finishScene
  split
  · exact h
  · exact commitStage_blinks _ _ (teardownStage_blinks s h)
  · exact commitStage_blinks _ s h

/-! ### The last frame start is complete where a row begins (R12) -/

/-- The comparison of R95 is the last thing a frame start owes. -/
theorem blinkCompare_settled (s : State) (hstage : s.scene.stage = .settled) (hends : s.expiringEntries = [])
    (howed : s.expired = []) (hperiod : 0 < s.scene.live.blinkPeriod) : (blinkCompare s).settled := by
  refine ⟨by simp [hstage], by simp [hends], by simp [howed], ?_⟩
  unfold blinkCompare
  split_ifs with hlt
  · exact hlt
  · exact hperiod

theorem settle_settled (s : State) (h : s.scene.blinks) : s.settle.settled := by
  have hfirst : (endsBeforeStore s).scene.blinks := endsBeforeStore_blinks s h
  unfold State.settle
  dsimp only
  split_ifs with howed hends
  · refine blinkCompare_settled _ (by simp) (by simpa using hends) rfl ?_
    have hfinished := finishScene_blinks (offerSome (endsBeforeStore s).expired (endsBeforeStore s))
      (by simpa using hfirst)
    simpa using hfinished.1
  · refine blinkCompare_settled _ (by simp) (by simp) rfl ?_
    simpa using (endExpired_blinks _ (finishScene_blinks _ hfirst)).1
  · simp only [State.expiryOwed, Bool.or_eq_true, Bool.not_eq_true', List.isEmpty_eq_false_iff, not_or, not_not]
      at howed
    exact blinkCompare_settled _ (by simp) (by simp [howed]) (by simp [howed]) (finishScene_blinks s h).1

theorem ready_settled (s : State) (h : s.scene.blinks) : s.ready.settled := settle_settled s.quiet h

theorem quiet_of_linkOut (s : State) (h : s.linkOut = []) : s.quiet = s := by
  cases s
  cases h
  rfl

theorem ready_ready (s : State) (h : s.scene.blinks) : s.ready.ready = s.ready := by
  rw [ready_of_settled s.ready (ready_settled s h), quiet_of_linkOut s.ready (ready_linkOut s)]

/-! ### Each row looks at the part through `State.ready` alone -/

theorem withCommand_of_ready (code : Byte) (k : Fin 4 → Executing → Option (List Byte) → State → State) (s : State)
    (h : s.ready.ready = s.ready) : withCommand code k s = withCommand code k s.ready := by
  simp only [withCommand, h]

theorem runCommand_of_ready (code : Byte) (f : Fin 4 → Executing → List Byte → State → Verdict) (s : State)
    (h : s.ready.ready = s.ready) : runCommand code f s = runCommand code f s.ready :=
  withCommand_of_ready code _ s h

theorem inputSymbol_of_ready (sym : Symbol) (s : State) (h : s.ready.ready = s.ready) :
    inputSymbol sym s = inputSymbol sym s.ready := by
  simp only [inputSymbol, h]

/-- The rows that do not take the stages of a frame start themselves. -/
theorem exec_of_ready (c : Instr) (s : State)
    (hc : c ∉ [Instr.resetnAsserted, .applyTeardown, .applyCommit, .blinkToggle, .sessionExpiry])
    (h : s.ready.ready = s.ready) : exec c s = exec c s.ready := by
  cases c
  case resetnAsserted | applyTeardown | applyCommit | blinkToggle | sessionExpiry => exact absurd hc (by decide)
  case frameStart | lineStart | pixel | lineEnd | frameEnd =>
    exact congrArg Host.Outcome.next (inputSymbol_of_ready _ s h)
  case packetReceived => simp only [exec, execPacketReceived, h]
  case resetnReleased => simp only [exec, execResetnReleased, h]
  case initialisationSweepEnd => simp only [exec, execInitialisationSweepEnd, h]
  case watchdogExpiry => simp only [exec, execWatchdogExpiry, h]
  case generatedFrameStart => simp only [exec, execGeneratedFrameStart, h]
  case generatedSymbol => simp only [exec, execGeneratedSymbol, h]
  case relockSwitch => simp only [exec, execRelockSwitch, h]
  case takeHeadPacket => simp only [exec, execTakeHeadPacket, h]
  case cellStep => simp only [exec, execCellStep, cellStep, h]
  case glyphStep => simp only [exec, execGlyphStep, glyphStep, h]
  case syncCommit => simp only [exec, execSyncCommit, syncCommit, h]
  case closeSession | clearCounters | resetDevice =>
    exact congrArg Host.Outcome.next (withCommand_of_ready _ _ s h)
  all_goals exact congrArg Host.Outcome.next (runCommand_of_ready _ _ s h)

/-- Settles O3. -/
theorem frameStartStagesComeFirst : Obligations.FrameStartStagesComeFirst := by
  intro c s hc hlive hstaged
  have hblinks : s.scene.blinks := ⟨hlive, hstaged⟩
  exact ⟨exec_of_ready c s hc (ready_ready s hblinks), ready_settled s hblinks, ready_linkOut s⟩

end Sys2Proof.Machine

namespace Sys2Proof.Machine

/-! ### The parts that change only at their rows (R2, R7, R45, R46, R65, R122, R127) -/

/-- A part of the state that only some rows change. -/
inductive Part where
  | live
  | staged
  | queue
  | cells
  | glyphs
  | settings
  | failures
  deriving DecidableEq

/-- The part stands in `t` as it did in `s`; the staged scene is held only while it is sealed (R7). -/
def Part.kept (s t : State) : Part → Prop
  | .live => t.scene.live = s.scene.live
  | .staged => s.scene.commit.pending = true → t.scene.staged = s.scene.staged
  | .queue => t.commandQueue = s.commandQueue
  | .cells => t.cells = s.cells
  | .glyphs => t.glyphs = s.glyphs
  | .settings => t.settings = s.settings
  | .failures => t.rx.checkFailures = s.rx.checkFailures

/-- The parts that the owed stages of a frame start may change before the row itself (R12). -/
def Part.ofFrameStart : Part → Prop
  | .live | .staged | .queue => True
  | _ => False

/-- The parts each row may change, with the last frame start complete. -/
def changedBy (c : Instr) (s : State) : List Part :=
  match c with
  | .resetnAsserted | .resetDevice => [.live, .staged, .queue, .settings, .failures]
  | .frameStart => if s.rx.lock = .locked then [.live, .staged, .queue] else []
  | .generatedFrameStart => if s.tx.generator = .idle then [] else [.live, .staged, .queue]
  | .packetReceived _ => [.staged, .queue, .failures]
  | .initialisationSweepEnd => [.cells, .glyphs]
  | .takeHeadPacket => [.queue]
  | .writeCells | .cellStep => [.cells]
  | .writeGlyphRows | .glyphStep => [.glyphs]
  | .closeSession => [.staged, .queue]
  | .discard => [.staged]
  | .deviceSettings => [.settings]
  | .readStatus | .clearCounters => [.failures]
  | _ => []

theorem Part.not_ofFrameStart {p : Part} (hp : p ∉ [Part.live, .staged, .queue]) : ¬ p.ofFrameStart := by
  cases p
  case live | staged | queue => exact absurd hp (by decide)
  all_goals exact id

theorem Part.kept_refl (p : Part) (s : State) : p.kept s s := by
  cases p <;> simp [Part.kept]

/-- What is kept speaks of the held parts alone. -/
theorem Part.kept_congr {p : Part} {s t u : State} (h : p.kept s t) (hscene : u.scene = t.scene)
    (hcells : u.cells = t.cells) (hglyphs : u.glyphs = t.glyphs) (hqueue : u.commandQueue = t.commandQueue)
    (hsettings : u.settings = t.settings) (hrx : u.rx = t.rx) : p.kept s u := by
  cases p <;> simpa [Part.kept, hscene, hcells, hglyphs, hqueue, hsettings, hrx] using h

theorem Part.kept_of_ready {p : Part} {s t : State} (hs : p.ofFrameStart → s.settled) (h : p.kept s.ready t) :
    p.kept s t := by
  cases p
  case live | staged | queue =>
    have hready := ready_of_settled s (hs trivial)
    simpa [Part.kept, hready] using h
  all_goals simpa [Part.kept] using h

/-! ### What a command of the packet leaves (R163) -/

/-- The state a verdict leaves before the packet goes on; a refused command has changed nothing. -/
def Verdict.stateFrom (s : State) : Verdict → State
  | .refuse _ => s
  | .done t _ => t
  | .long t _ => t

@[simp] theorem conclude_frame (e : Fin 4) (x : Executing) (s : State) (v : Verdict) :
    (conclude e x s v).scene = (v.stateFrom s).scene ∧ (conclude e x s v).cells = (v.stateFrom s).cells
    ∧ (conclude e x s v).glyphs = (v.stateFrom s).glyphs
    ∧ (conclude e x s v).commandQueue = (v.stateFrom s).commandQueue
    ∧ (conclude e x s v).settings = (v.stateFrom s).settings ∧ (conclude e x s v).rx = (v.stateFrom s).rx := by
  cases v <;> simp [conclude, refusePacket, Verdict.stateFrom]

/-- Everything `withCommand` can do: nothing where the event does not arise (log entry 3), else run the command that
stands. -/
theorem withCommand_cases (code : Byte) (k : Fin 4 → Executing → Option (List Byte) → State → State) (s : State) :
    withCommand code k s = s.ready
    ∨ ∃ e x, s.ready.engine = .executing x ∧ x.packet.session = some e ∧ x.long = none ∧ x.rest.head? = some code
        ∧ withCommand code k s = k e x (operandsOf x.rest) s.ready := by
  unfold withCommand
  dsimp only
  split
  · next x he =>
    split
    · next e hp =>
      split_ifs with h
      · exact Or.inr ⟨e, x, he, hp, h.1, h.2, rfl⟩
      · exact Or.inl rfl
    · exact Or.inl rfl
  · exact Or.inl rfl

/-- Everything `runCommand` can do: nothing, or the conclusion of a refusal or of the command's own verdict. -/
theorem runCommand_cases (code : Byte) (f : Fin 4 → Executing → List Byte → State → Verdict) (s : State) :
    runCommand code f s = s.ready
    ∨ ∃ e x v, runCommand code f s = conclude e x s.ready v
        ∧ (v = .refuse .badOperand ∨ ∃ ops, v = f e x ops s.ready) := by
  unfold runCommand
  rcases withCommand_cases code _ s with h | ⟨e, x, -, -, -, -, h⟩
  · exact Or.inl h
  · rw [h]
    cases operandsOf x.rest with
    | none => exact Or.inr ⟨e, x, _, rfl, Or.inl rfl⟩
    | some ops => exact Or.inr ⟨e, x, _, rfl, Or.inr ⟨ops, rfl⟩⟩

/-- A verdict on a command in state `s` keeps the part. -/
def Verdict.keeps (p : Part) (s : State) (v : Verdict) : Prop := p.kept s (v.stateFrom s)

theorem conclude_kept {p : Part} {e : Fin 4} {x : Executing} {s : State} {v : Verdict} (h : v.keeps p s) :
    p.kept s (conclude e x s v) :=
  Part.kept_congr h (by simp) (by simp) (by simp) (by simp) (by simp) (by simp)

theorem runCommand_kept {p : Part} {code : Byte} {f : Fin 4 → Executing → List Byte → State → Verdict} {s : State}
    (hs : p.ofFrameStart → s.settled) (hf : ∀ e x ops, (f e x ops s.ready).keeps p s.ready) :
    p.kept s (runCommand code f s) := by
  refine Part.kept_of_ready hs ?_
  rcases runCommand_cases code f s with h | ⟨e, x, v, h, hv⟩
  · rw [h]
    exact p.kept_refl _
  · have hkeeps : v.keeps p s.ready := by
      rcases hv with rfl | ⟨ops, rfl⟩
      · exact p.kept_refl _
      · exact hf e x ops
    rw [h]
    exact conclude_kept hkeeps

section Verdicts

variable {p : Part} {s : State} {e : Fin 4} {x : Executing} {ops : List Byte} {slot : Fin 8}

@[simp] theorem keeps_refuse (status : Status) : (Verdict.refuse status).keeps p s := p.kept_refl s

@[simp] theorem keeps_done_same (data : List Byte) : (Verdict.done s data).keeps p s := p.kept_refl s

@[simp] theorem keeps_long_same (c : LongCommand) : (Verdict.long s c).keeps p s := p.kept_refl s

@[simp] theorem keeps_read_same (data : List Byte) : (Verdict.read x s data).keeps p s := by
  unfold Verdict.read
  split_ifs <;> simp

@[simp] theorem keeps_noOperands {v : Verdict} (h : v.keeps p s) : (noOperands ops v).keeps p s := by
  unfold noOperands
  split
  · exact h
  · exact keeps_refuse _

@[simp] theorem keeps_controlOnly {v : Verdict} (h : v.keeps p s) : (controlOnly e s v).keeps p s := by
  unfold controlOnly
  split_ifs
  · exact h
  · exact keeps_refuse _

@[simp] theorem keeps_withinExtents {targets : List Nat} {v : Verdict} (h : v.keeps p s) :
    (withinExtents e s targets v).keeps p s := by
  unfold withinExtents
  split_ifs
  · exact keeps_refuse _
  · exact h

/-- Past check 6 the staged scene may change: no commit is pending (R7). -/
theorem keeps_unsealed {v : Verdict} (h : s.scene.commit.pending = false → v.keeps p s) :
    (unsealed s v).keeps p s := by
  unfold unsealed
  split_ifs with hp
  · exact keeps_refuse _
  · exact h (Bool.eq_false_iff.2 hp)

theorem keeps_withWindow {k : WindowRecord → Verdict}
    (h : ∀ r, s.scene.commit.pending = false → (k r).keeps p s) : (withWindow e slot s k).keeps p s := by
  unfold withWindow
  split
  · exact keeps_refuse _
  · next r _ =>
    split_ifs
    · exact keeps_refuse _
    · exact keeps_unsealed (h r)

theorem keeps_done_setStaged {sc : Scene} {data : List Byte} (h : s.scene.commit.pending = false) :
    (Verdict.done (s.setStaged sc) data).keeps p s := by
  cases p <;> simp [Verdict.keeps, Verdict.stateFrom, Part.kept, h]

theorem keeps_done_setWindowRecord {k : Fin 8} {r : WindowRecord} {data : List Byte}
    (h : s.scene.commit.pending = false) : (Verdict.done (s.setWindowRecord k r) data).keeps p s :=
  keeps_done_setStaged h

@[simp] theorem keeps_unsealed_setStaged {sc : Scene} {data : List Byte} :
    (unsealed s (.done (s.setStaged sc) data)).keeps p s := keeps_unsealed keeps_done_setStaged

@[simp] theorem keeps_editWindow {edit : WindowRecord → Option WindowRecord} :
    (editWindow e slot s edit).keeps p s := by
  refine keeps_withWindow fun r hp => ?_
  split
  · exact keeps_done_setWindowRecord hp
  · exact keeps_refuse _

/-! ### Commands that change no part -/

@[simp] theorem keepalive_keeps : (keepalive e x ops s).keeps p s := by simp [keepalive]

@[simp] theorem identify_keeps : (identify e x ops s).keeps p s := by simp [identify]

@[simp] theorem openSessionCommand_keeps : (openSessionCommand e x ops s).keeps p s := by
  unfold openSessionCommand
  repeat' split
  all_goals simp

@[simp] theorem readWindow_keeps : (readWindow e x ops s).keeps p s := by
  unfold readWindow
  repeat' split
  all_goals simp

@[simp] theorem readOrder_keeps : (readOrder e x ops s).keeps p s := by
  unfold readOrder
  repeat' split
  all_goals simp

@[simp] theorem fillCells_keeps : (fillCells e x ops s).keeps p s := by
  unfold fillCells
  repeat' split
  all_goals simp

@[simp] theorem copyCells_keeps : (copyCells e x ops s).keeps p s := by
  unfold copyCells
  repeat' split
  all_goals simp

@[simp] theorem readCells_keeps : (readCells e x ops s).keeps p s := by
  unfold readCells
  repeat' split
  all_goals simp

@[simp] theorem findCells_keeps : (findCells e x ops s).keeps p s := by
  unfold findCells
  repeat' split
  all_goals simp

@[simp] theorem clearBank_keeps : (clearBank e x ops s).keeps p s := by
  unfold clearBank
  repeat' split
  all_goals simp

@[simp] theorem readGlyph_keeps : (readGlyph e x ops s).keeps p s := by
  unfold readGlyph
  repeat' split
  all_goals simp

@[simp] theorem readPalette_keeps : (readPalette e x ops s).keeps p s := by
  unfold readPalette
  repeat' split
  all_goals simp

@[simp] theorem readColours_keeps : (readColours e x ops s).keeps p s := by
  unfold readColours
  repeat' split
  all_goals simp

@[simp] theorem commit_keeps : (commit e x ops s).keeps p s := by
  unfold commit
  repeat' split
  all_goals cases p <;> simp [Verdict.keeps, Verdict.stateFrom, Part.kept]

/-! ### Commands on the staged scene, which check 6 guards (R7) -/

@[simp] theorem claimWindow_keeps : (claimWindow e x ops s).keeps p s := by
  refine keeps_noOperands (keeps_unsealed fun hp => ?_)
  split
  · exact keeps_refuse _
  · unfold Verdict.read
    split_ifs
    · exact keeps_done_setWindowRecord hp
    · exact keeps_refuse _

@[simp] theorem releaseWindow_keeps : (releaseWindow e x ops s).keeps p s := by
  unfold releaseWindow
  repeat' split
  · exact keeps_withWindow fun _ hp => keeps_done_setStaged hp
  all_goals exact keeps_refuse _

@[simp] theorem hideWindow_keeps : (hideWindow e x ops s).keeps p s := by
  unfold hideWindow
  repeat' split
  · exact keeps_withWindow fun _ hp => keeps_done_setStaged hp
  all_goals exact keeps_refuse _

@[simp] theorem showWindow_keeps : (showWindow e x ops s).keeps p s := by
  have hshow (slot : Fin 8) (q : Placement) :
      (withWindow e slot s fun _ =>
        if referenceShown q s.scene.staged.order then
          .done (s.setStaged { s.scene.staged with order := place slot q s.scene.staged.order }) []
        else .refuse .notShown).keeps p s := by
    refine keeps_withWindow fun _ hp => ?_
    split_ifs
    · exact keeps_done_setStaged hp
    · exact keeps_refuse _
  unfold showWindow
  split
  · split
    · split
      · exact hshow _ _
      · exact keeps_refuse _
    · exact keeps_refuse _
  · exact keeps_refuse _

@[simp] theorem setWindow_keeps : (setWindow e x ops s).keeps p s := by
  unfold setWindow
  split
  · split
    · exact keeps_editWindow
    · exact keeps_refuse _
  · exact keeps_refuse _

@[simp] theorem moveWindow_keeps : (moveWindow e x ops s).keeps p s := by
  unfold moveWindow
  repeat' split
  all_goals simp

@[simp] theorem setScroll_keeps : (setScroll e x ops s).keeps p s := by
  unfold setScroll
  split
  · split
    · split_ifs
      · exact keeps_editWindow
      · exact keeps_refuse _
    · exact keeps_refuse _
  · exact keeps_refuse _

@[simp] theorem setCursor_keeps : (setCursor e x ops s).keeps p s := by
  unfold setCursor
  repeat' split
  all_goals simp

@[simp] theorem setBorder_keeps : (setBorder e x ops s).keeps p s := by
  unfold setBorder
  split
  · split
    · exact keeps_editWindow
    · exact keeps_refuse _
  · exact keeps_refuse _

@[simp] theorem setKey_keeps : (setKey e x ops s).keeps p s := by
  unfold setKey
  repeat' split
  all_goals simp

@[simp] theorem setSplit_keeps : (setSplit e x ops s).keeps p s := by
  unfold setSplit
  split
  · split
    · exact keeps_editWindow
    · exact keeps_refuse _
  · exact keeps_refuse _

@[simp] theorem clearPart_keeps : (clearPart e x ops s).keeps p s := by
  unfold clearPart
  repeat' split
  all_goals simp

@[simp] theorem setPalette_keeps : (setPalette e x ops s).keeps p s := by
  unfold setPalette
  repeat' split
  all_goals simp

@[simp] theorem setColours_keeps : (setColours e x ops s).keeps p s := by
  unfold setColours
  repeat' split
  all_goals simp

@[simp] theorem setOptions_keeps : (setOptions e x ops s).keeps p s := by
  unfold setOptions
  repeat' split
  all_goals simp

/-! ### Commands that change one part -/

theorem discard_keeps (hp : p ≠ .staged) : (discard e x ops s).keeps p s := by
  refine keeps_noOperands ?_
  cases p
  case staged => exact absurd rfl hp
  all_goals rfl

theorem deviceSettings_keeps (hp : p ≠ .settings) : (deviceSettings e x ops s).keeps p s := by
  have hdone (settings : DeviceSettings) : (Verdict.done { s with settings := settings } []).keeps p s := by
    cases p <;> simp [Verdict.keeps, Verdict.stateFrom, Part.kept] at hp ⊢
  unfold deviceSettings
  repeat' split
  all_goals simp [hdone]

theorem readStatus_keeps (hp : p ≠ .failures) : (readStatus e x ops s).keeps p s := by
  have hclear (data : List Byte) : (Verdict.done (clearLinkCounters s) data).keeps p s := by
    cases p <;> simp [Verdict.keeps, Verdict.stateFrom, Part.kept] at hp ⊢
  unfold readStatus
  split
  · split_ifs
    · exact keeps_read_same _
    · unfold Verdict.read
      split_ifs <;> simp [hclear]
    · exact keeps_refuse _
  · exact keeps_refuse _

theorem writeCells_keeps (hp : p ≠ .cells) : (writeCells e x ops s).keeps p s := by
  have hdone (cells : Store Cell) : (Verdict.done { fetchSome s with cells := cells } []).keeps p s := by
    cases p <;> simp [Verdict.keeps, Verdict.stateFrom, Part.kept] at hp ⊢
  unfold writeCells
  split
  · split
    · split_ifs
      · exact keeps_withinExtents (hdone _)
      · exact keeps_refuse _
    · exact keeps_refuse _
  · exact keeps_refuse _

theorem writeGlyphRows_keeps (hp : p ≠ .glyphs) : (writeGlyphRows e x ops s).keeps p s := by
  have hdone (glyphs : Store Word) : (Verdict.done { s with glyphs := glyphs } []).keeps p s := by
    cases p <;> simp [Verdict.keeps, Verdict.stateFrom, Part.kept] at hp ⊢
  unfold writeGlyphRows
  repeat' split
  all_goals simp [hdone]

end Verdicts

end Sys2Proof.Machine

namespace Sys2Proof.Machine

/-! ### What the link side of a row leaves (R111 to R142) -/

/-- Nothing of a frame start is owed but the blink comparison. -/
def State.nothingOwed (s : State) : Prop :=
  s.scene.stage = .settled ∧ s.expiringEntries = [] ∧ s.expired = []

/-- Between `s` and `t` the stores, the settings and the check-failure counter stand; and where `scenes` holds, so do the
Scene Store, the Command Queue, and what a frame start owes. -/
structure Untouched (scenes : Prop) (s t : State) : Prop where
  cells : t.cells = s.cells
  glyphs : t.glyphs = s.glyphs
  settings : t.settings = s.settings
  failures : t.rx.checkFailures = s.rx.checkFailures
  scene : scenes → t.scene = s.scene
  queue : scenes → t.commandQueue = s.commandQueue
  expired : scenes → t.expired = s.expired
  ends : scenes → t.expiringEntries = s.expiringEntries

theorem Part.kept_of_untouched {p : Part} {P : Prop} {s t : State} (h : Untouched P s t)
    (hp : p.ofFrameStart → P) : p.kept s t := by
  cases p
  case live => exact congrArg SceneStore.live (h.scene (hp trivial))
  case staged => exact fun _ => congrArg SceneStore.staged (h.scene (hp trivial))
  case queue => exact h.queue (hp trivial)
  case cells => exact h.cells
  case glyphs => exact h.glyphs
  case settings => exact h.settings
  case failures => exact h.failures

section LinkSide

variable {P : Prop} {s t u : State}

theorem Untouched.refl : Untouched P s s :=
  ⟨rfl, rfl, rfl, rfl, fun _ => rfl, fun _ => rfl, fun _ => rfl, fun _ => rfl⟩

theorem Untouched.trans (h : Untouched P s t) (g : Untouched P t u) : Untouched P s u where
  cells := g.cells.trans h.cells
  glyphs := g.glyphs.trans h.glyphs
  settings := g.settings.trans h.settings
  failures := g.failures.trans h.failures
  scene hP := (g.scene hP).trans (h.scene hP)
  queue hP := (g.queue hP).trans (h.queue hP)
  expired hP := (g.expired hP).trans (h.expired hP)
  ends hP := (g.ends hP).trans (h.ends hP)

/-- `Untouched.trans` with the last operation named first. -/
theorem Untouched.after (g : Untouched P t u) (h : Untouched P s t) : Untouched P s u := h.trans g

theorem Untouched.nothingOwed (h : Untouched P s t) (hP : P) (hs : s.nothingOwed) : t.nothingOwed := by
  obtain ⟨hstage, hends, hexpired⟩ := hs
  exact ⟨by rw [h.scene hP, hstage], by rw [h.ends hP, hends], by rw [h.expired hP, hexpired]⟩

/-- The blocks of the link may change freely, but for the check-failure counter. -/
theorem untouched_link {rx : Receiver} {comp : Compositor} {tx : Transmitter} {linkOut : List Symbol} {draws : Nat}
    (h : rx.checkFailures = s.rx.checkFailures := by rfl) :
    Untouched P s { s with rx := rx, comp := comp, tx := tx, linkOut := linkOut, draws := draws } :=
  ⟨rfl, rfl, rfl, h, fun _ => rfl, fun _ => rfl, fun _ => rfl, fun _ => rfl⟩

theorem closeGap_untouched : Untouched P s (closeGap s) := by
  refine ⟨?_, ?_, ?_, ?_, ?_, ?_, ?_, fun _ => expiringEntries_of_sessions _ _ ?_⟩ <;> simp

theorem putSymbol_untouched {sym : Symbol} : Untouched P s (putSymbol sym s) := by
  refine ⟨?_, ?_, ?_, ?_, ?_, ?_, ?_, fun _ => expiringEntries_of_sessions _ _ ?_⟩ <;> simp

theorem endLineAndFrame_untouched : Untouched P s (endLineAndFrame s) := by
  refine ⟨?_, ?_, ?_, ?_, ?_, ?_, ?_, fun _ => expiringEntries_of_sessions _ _ ?_⟩ <;> simp

theorem reportLockChange_untouched : Untouched P s (reportLockChange s) := by
  constructor <;> simp

theorem settleSome_of_nothingOwed (h : s.nothingOwed) : settleSome s = s := by
  obtain ⟨hstage, hends, hexpired⟩ := h
  simp [settleSome, State.expiryOwed, hstage, hends, hexpired]

theorem settleSome_untouched (h : P → s.nothingOwed) : Untouched P s (settleSome s) := by
  refine ⟨by simp, by simp, by simp, by simp, fun hP => ?_, fun hP => ?_, fun hP => ?_, fun hP => ?_⟩ <;>
    rw [settleSome_of_nothingOwed (h hP)]

theorem ready_untouched (h : P → s.settled) : Untouched P s s.ready := by
  refine ⟨by simp, by simp, by simp, by simp, fun hP => ?_, fun hP => ?_, fun hP => ?_, fun hP => ?_⟩ <;>
    (rw [ready_of_settled s (h hP)]; rfl)

theorem orderedClose_untouched {act : State → State} (hact : ∀ u, u.rx = s.rx → Untouched P u (act u))
    (howed : P → s.nothingOwed) : Untouched P s (orderedClose act s) := by
  have hclosed : Untouched P s (act (closeGap s)) := closeGap_untouched.trans (hact _ (by simp))
  have hdrawn : Untouched P s s.draw.2 := untouched_link
  unfold orderedClose
  dsimp only
  split
  · split_ifs
    · have hacted : Untouched P s (act s.draw.2) := hdrawn.trans (hact _ rfl)
      exact (hacted.trans (settleSome_untouched fun hP => hacted.nothingOwed hP (howed hP))).trans closeGap_untouched
    · exact (hdrawn.trans closeGap_untouched).trans (hact _ (by simp))
    · exact hclosed
  · exact hact s rfl

/-! ### Symbols at the receiver -/

theorem enterLocked_untouched {g : Geometry} {judged : Bool} {mode : OutputMode} :
    Untouched P s (enterLocked g judged mode s) := reportLockChange_untouched.after untouched_link

theorem framingError_untouched : Untouched P s (framingError s) := by
  unfold framingError
  dsimp only
  split_ifs
  · exact reportLockChange_untouched.after untouched_link
  · exact untouched_link

theorem acquireSymbol_untouched {sym : Symbol} : Untouched P s (acquireSymbol sym s) := by
  unfold acquireSymbol
  rcases s.rx.tracker.symbol sym with ⟨tracker, success⟩
  have htaken : Untouched P s (if sym = .fs then restartWatchdog { s with rx := { s.rx with tracker := tracker } }
      else { s with rx := { s.rx with tracker := tracker } }) := by
    split_ifs <;> exact untouched_link
  cases success with
  | none => exact htaken
  | some g => exact htaken.trans enterLocked_untouched

theorem searchSymbol_untouched {sym : Symbol} : Untouched P s (searchSymbol sym s) := by
  unfold searchSymbol
  split_ifs
  · exact acquireSymbol_untouched.after untouched_link
  · exact .refl

theorem holdoverSymbol_untouched {sym : Symbol} : Untouched P s (holdoverSymbol sym s) := by
  unfold holdoverSymbol
  dsimp only
  split_ifs
  · split <;> exact untouched_link
  · split
    · exact .refl
    · exact untouched_link

theorem compositedFrameStart_untouched {g : Option Geometry} (hP : ¬ P) : Untouched P s (compositedFrameStart g s) :=
  ⟨rfl, rfl, rfl, rfl, fun h => absurd h hP, fun h => absurd h hP, fun h => absurd h hP, fun h => absurd h hP⟩

/-- In LOCKED only an FS reaches the Scene Store (R118). -/
theorem lockedStep_untouched {clean : Bool} {sym : Symbol} (h : P → sym ≠ .fs) :
    Untouched P s (lockedStep clean sym s) := by
  cases sym
  case fs =>
    have hP : ¬ P := fun hP => h hP rfl
    cases clean <;> exact (compositedFrameStart_untouched hP).after untouched_link
  case ls n =>
    unfold lockedStep
    dsimp only
    repeat' split
    all_goals exact untouched_link
  all_goals exact untouched_link

theorem lockedSymbol_untouched {sym : Symbol} (h : P → sym ≠ .fs) : Untouched P s (lockedSymbol sym s) := by
  have hchecked (fault : Bool) : Untouched P s (if fault then framingError s else s) := by
    split_ifs
    · exact framingError_untouched
    · exact .refl
  unfold lockedSymbol
  dsimp only
  split
  · exact (hchecked _).trans (lockedStep_untouched h)
  · by_cases hsym : sym = .fs
    · rw [if_pos hsym]
      exact acquireSymbol_untouched.after (hchecked _)
    · rw [if_neg hsym]
      exact hchecked _

theorem receiveSymbol_untouched {sym : Symbol} (h : P → sym = .fs → s.rx.lock ≠ .locked) :
    Untouched P s (receiveSymbol sym s) := by
  have hcounted : Untouched P s { s with rx := { s.rx with gapPackets := 0 } } := untouched_link
  unfold receiveSymbol
  dsimp only
  split
  · exact hcounted
  · exact hcounted.trans searchSymbol_untouched
  · exact hcounted.trans acquireSymbol_untouched
  · next hlock => exact hcounted.trans (lockedSymbol_untouched fun hP hsym => h hP hsym hlock)
  · exact hcounted.trans holdoverSymbol_untouched

theorem fetchAll_untouched : Untouched P s (fetchAll s) := by
  refine ⟨?_, ?_, ?_, ?_, ?_, ?_, ?_, fun _ => expiringEntries_of_sessions _ _ ?_⟩ <;> simp

theorem composePixel_untouched {x y : Nat} {original : RGB} : Untouched P s (composePixel x y original s).2 :=
  fetchAll_untouched.trans untouched_link

theorem passSymbol_untouched {before : FramePos} {sym : Symbol} : Untouched P s (passSymbol before sym s) := by
  unfold passSymbol
  split
  · split
    · exact composePixel_untouched.trans putSymbol_untouched
    · exact putSymbol_untouched
  · exact putSymbol_untouched

/-- An input symbol reaches the Scene Store only as an FS in LOCKED (R118). -/
theorem inputSymbol_untouched {sym : Symbol} (hs : P → s.settled) (h : P → sym = .fs → s.rx.lock ≠ .locked) :
    Untouched P s (inputSymbol sym s) := by
  have hready : Untouched P s s.ready := ready_untouched hs
  have hreceive (u : State) (hu : u.rx = s.ready.rx) : Untouched P u (receiveSymbol sym u) :=
    receiveSymbol_untouched fun hP hsym => by
      rw [hu, (ready_frame s).2.2.2.2.2.1]
      exact h hP hsym
  have howed (hP : P) : s.ready.nothingOwed :=
    hready.nothingOwed hP ⟨(hs hP).1, (hs hP).2.1, (hs hP).2.2.1⟩
  refine hready.trans ?_
  unfold inputSymbol
  dsimp only
  split
  · exact untouched_link
  · exact hreceive _ rfl
  · split_ifs
    · exact ((hreceive _ rfl).trans untouched_link).trans putSymbol_untouched
    · exact hreceive _ rfl
  · exact (orderedClose_untouched hreceive howed).trans passSymbol_untouched

/-! ### The watchdog, the generator and the switch -/

theorem endInterruptedFrame_untouched {notify : State → State} (h : ∀ u, Untouched P u (notify u)) :
    Untouched P s (endInterruptedFrame notify s) := by
  have hdrawn (u : State) : Untouched P u u.draw.2 := untouched_link
  have hended : Untouched P s (endLineAndFrame s.draw.2).draw.2 :=
    ((hdrawn s).trans endLineAndFrame_untouched).trans (hdrawn _)
  unfold endInterruptedFrame
  dsimp only
  split_ifs
  · exact (((hdrawn s).trans (h _)).trans endLineAndFrame_untouched).trans closeGap_untouched
  · exact (hended.trans (h _)).trans closeGap_untouched
  · exact (hended.trans closeGap_untouched).trans (h _)

theorem enterHoldover_untouched : Untouched P s (enterHoldover s) := by
  have hlost : Untouched P s (loseLock .holdover .generate s) := untouched_link
  have hended := hlost.trans (endInterruptedFrame_untouched fun _ => reportLockChange_untouched)
  exact hended.trans untouched_link

theorem expireWatchdog_untouched : Untouched P s (expireWatchdog s) := by
  have hstopped : Untouched P s { s with rx := { s.rx with watchdog := none } } := untouched_link
  unfold expireWatchdog
  dsimp only
  split
  · split_ifs
    · exact hstopped.trans enterHoldover_untouched
    · exact reportLockChange_untouched.after (hstopped.trans untouched_link)
  all_goals exact untouched_link

theorem generatedPixel_untouched {g : Geometry} {k x : Nat} : Untouched P s (generatedPixel g k x s) := by
  unfold generatedPixel
  split_ifs
  · exact composePixel_untouched.trans putSymbol_untouched
  · exact putSymbol_untouched

theorem generateSymbol_untouched {g : Geometry} {pos : GenPos} {period : Nat} :
    Untouched P s (generateSymbol g pos period s) := by
  have hput (sym : Symbol) : Untouched P s (putSymbol sym (closeGap s)) := closeGap_untouched.trans putSymbol_untouched
  cases pos with
  | start => exact .refl
  | ended => exact .refl
  | line k =>
    unfold generateSymbol
    dsimp only
    split_ifs
    · exact ((hput _).trans untouched_link).trans untouched_link
    · exact (hput _).trans untouched_link
    · exact (hput _).trans untouched_link
  | pixel k x => exact (closeGap_untouched.trans generatedPixel_untouched).trans untouched_link
  | lineEnd k => exact (hput _).trans untouched_link
  | frameEnd => exact ((hput _).trans untouched_link).trans untouched_link

theorem beginGeneratedFrame_untouched {g : Geometry} (hP : ¬ P) : Untouched P s (beginGeneratedFrame g s) := by
  have hset : Untouched P s (setGenerator g (.line 0) s.settings.period s) := untouched_link
  have hclosed := hset.trans (orderedClose_untouched (act := compositedFrameStart (some g))
    (fun _ _ => compositedFrameStart_untouched hP) fun h => absurd h hP)
  exact hclosed.trans putSymbol_untouched

theorem discardOverfull_untouched : Untouched P s (discardOverfull s) := by
  unfold discardOverfull
  split
  · split_ifs
    · exact framingError_untouched
    · exact .refl
  · exact untouched_link
  · split
    · exact .refl
    · exact untouched_link
  · exact .refl
  · exact .refl

end LinkSide

end Sys2Proof.Machine

namespace Sys2Proof.Machine

/-! ### What the arrival of a packet leaves (R145 to R153) -/

/-- Between `s` and `t` the stores, the settings and the live scene stand, as they do at the arrival of a packet. -/
structure ArrivalKeeps (s t : State) : Prop where
  live : t.scene.live = s.scene.live
  cells : t.cells = s.cells
  glyphs : t.glyphs = s.glyphs
  settings : t.settings = s.settings

section Arrival

variable {s t u : State}

theorem ArrivalKeeps.trans (h : ArrivalKeeps s t) (g : ArrivalKeeps t u) : ArrivalKeeps s u :=
  ⟨g.live.trans h.live, g.cells.trans h.cells, g.glyphs.trans h.glyphs, g.settings.trans h.settings⟩

theorem Part.kept_of_arrival {p : Part} (h : ArrivalKeeps s t) (hp : p ∉ [Part.staged, .queue, .failures]) :
    p.kept s t := by
  cases p
  case staged | queue | failures => exact absurd hp (by decide)
  case live => exact h.live
  case cells => exact h.cells
  case glyphs => exact h.glyphs
  case settings => exact h.settings

theorem Untouched.arrival (h : Untouched True s t) : ArrivalKeeps s t :=
  ⟨congrArg SceneStore.live (h.scene trivial), h.cells, h.glyphs, h.settings⟩

theorem setSession_arrival (e : Fin 4) (v : Session) : ArrivalKeeps s (s.setSession e v) := ⟨rfl, rfl, rfl, rfl⟩

theorem joinReplies_arrival (o : Outgoing) : ArrivalKeeps s (s.joinReplies o) := ⟨rfl, rfl, rfl, rfl⟩

theorem joinCommands_arrival (q : Packet) : ArrivalKeeps s (s.joinCommands q) := ⟨rfl, rfl, rfl, rfl⟩

theorem endSession_arrival (e : Fin 4) : ArrivalKeeps s (endSession e s) := ⟨rfl, rfl, rfl, rfl⟩

theorem ArrivalKeeps.refl : ArrivalKeeps s s := ⟨rfl, rfl, rfl, rfl⟩

theorem refuseOpen_arrival (source : Byte) : ArrivalKeeps s (refuseOpen source s) := by
  unfold refuseOpen
  dsimp only
  split_ifs
  · split <;> exact ⟨rfl, rfl, rfl, rfl⟩
  · exact .refl

theorem openEntry_arrival (source : Byte) (role : Role) (limit : Nat) :
    ArrivalKeeps s (openEntry source role limit s) := by
  unfold openEntry
  split_ifs
  · exact joinReplies_arrival _
  · exact joinReplies_arrival _
  · split
    · exact (setSession_arrival _ _).trans (joinReplies_arrival _)
    · exact .refl

theorem openSession_arrival (source : Byte) (role : Role) (limit : Nat) :
    ArrivalKeeps s (openSession source role limit s) := by
  unfold openSession
  dsimp only
  split_ifs
  · split
    · exact (endSession_arrival _).trans (openEntry_arrival source role limit)
    · exact openEntry_arrival source role limit
  · exact .refl

theorem admitSequenced_arrival (e : Fin 4) (seq : Byte) (payload : List Byte) :
    ArrivalKeeps s (admitSequenced e seq payload s) := by
  have hnext : ArrivalKeeps (resetIdle e s) (admitNext e seq payload (resetIdle e s)) := by
    unfold admitNext
    split_ifs <;> exact ⟨rfl, rfl, rfl, rfl⟩
  have hduplicate : ArrivalKeeps (resetIdle e s) (admitDuplicate e (resetIdle e s)) := by
    unfold admitDuplicate
    repeat' split
    · exact .refl
    · exact joinReplies_arrival _
    · exact .refl
    · exact .refl
  have hanswered : ArrivalKeeps (resetIdle e s) (answerOutOfSequence e seq (resetIdle e s)) := by
    unfold answerOutOfSequence
    split_ifs
    · exact ⟨rfl, rfl, rfl, rfl⟩
    · exact .refl
  refine ArrivalKeeps.trans (setSession_arrival e _) (t := resetIdle e s) ?_
  unfold admitSequenced
  dsimp only
  split_ifs
  · exact hnext
  · exact hduplicate
  · exact hanswered

theorem admitUnicast_arrival (source seq : Byte) (payload : List Byte) :
    ArrivalKeeps s (admitUnicast source seq payload s) := by
  unfold admitUnicast
  repeat' split
  · exact openSession_arrival ..
  · exact refuseOpen_arrival _
  · exact admitSequenced_arrival ..
  · exact joinReplies_arrival _
  · exact .refl
  · exact .refl

theorem admitBroadcast_arrival (seq : Byte) (payload : List Byte) :
    ArrivalKeeps s (admitBroadcast seq payload s) := by
  unfold admitBroadcast
  split_ifs
  · exact joinCommands_arrival _
  · exact .refl

theorem forwardIfOutput_arrival (run : List Byte) : ArrivalKeeps s (forwardIfOutput run s) := by
  unfold forwardIfOutput
  split_ifs
  · exact ⟨rfl, rfl, rfl, rfl⟩
  · exact .refl

theorem separate_arrival (run : List Byte) (kind dest source seq : Byte) (payload : List Byte) :
    ArrivalKeeps s (separate run kind dest source seq payload s) := by
  unfold separate
  split_ifs
  · exact admitUnicast_arrival ..
  · exact (forwardIfOutput_arrival run).trans (admitBroadcast_arrival ..)
  · exact forwardIfOutput_arrival run

theorem receivePacket_arrival (run : List Byte) : ArrivalKeeps s (receivePacket run s) := by
  have hcounted : ArrivalKeeps s { s with rx := { s.rx with gapPackets := s.rx.gapPackets + 1 } } :=
    ⟨rfl, rfl, rfl, rfl⟩
  unfold receivePacket
  dsimp only
  split_ifs
  · exact discardOverfull_untouched.arrival
  · split
    · exact hcounted.trans discardOverfull_untouched.arrival
    · exact ⟨rfl, rfl, rfl, rfl⟩
    · exact hcounted.trans (separate_arrival ..)

end Arrival

/-! ### The rows of the Command Engine that are no session command -/

section EngineRows

variable {p : Part} {s : State}

theorem setEngine_kept {t : State} (n : Engine) (h : p.kept s t) : p.kept s { t with engine := n } :=
  Part.kept_congr h rfl rfl rfl rfl rfl rfl

theorem carryOn_kept {e : Fin 4} {x : Executing} {t : State} (h : p.kept s t) : p.kept s (carryOn e x t) :=
  Part.kept_congr h (by simp) (by simp) (by simp) (by simp) (by simp) (by simp)

theorem carryOnBroadcast_kept {x : Executing} {t : State} (h : p.kept s t) : p.kept s (carryOnBroadcast x t) :=
  Part.kept_congr h (by simp) (by simp) (by simp) (by simp) (by simp) (by simp)

theorem stepLong_kept {e : Fin 4} {x : Executing} {last : Bool} {c : LongCommand} {data : List Byte} {t : State}
    (h : p.kept s t) : p.kept s (stepLong e x last c data t) := by
  unfold stepLong
  split
  · exact carryOn_kept h
  · exact setEngine_kept _ h

theorem endPacket_kept {status : Status} {failed : Nat} {e : Fin 4} {x : Executing} :
    p.kept s (endPacket status failed e x s) :=
  Part.kept_congr (p.kept_refl s) rfl rfl rfl rfl rfl rfl

theorem takeHead_kept (hp : p ≠ .queue) : p.kept s (takeHead s) := by
  unfold takeHead
  split
  · exact setEngine_kept _ (p.kept_refl s)
  · next q rest _ =>
    have hrest : p.kept s { s with commandQueue := rest } := by
      cases p <;> simp [Part.kept] at hp ⊢
    split
    · exact carryOnBroadcast_kept hrest
    · split
      · exact carryOn_kept hrest
      · exact setEngine_kept _ (p.kept_refl s)

theorem cellStep_kept (hs : p.ofFrameStart → s.settled) (hp : p ≠ .cells) : p.kept s (cellStep s) := by
  have hwrite (cells : Store Cell) : p.kept s.ready { fetchSome s.ready with cells := cells } := by
    cases p <;> simp [Part.kept] at hp ⊢
  refine Part.kept_of_ready hs ?_
  unfold cellStep
  dsimp only
  split
  · split
    · exact stepLong_kept (hwrite _)
    · exact stepLong_kept (hwrite _)
    · exact stepLong_kept (p.kept_refl _)
    · exact p.kept_refl _
  · exact p.kept_refl _

theorem glyphStep_kept (hs : p.ofFrameStart → s.settled) (hp : p ≠ .glyphs) : p.kept s (glyphStep s) := by
  have hwrite (glyphs : Store Word) : p.kept s.ready { s.ready with glyphs := glyphs } := by
    cases p <;> simp [Part.kept] at hp ⊢
  refine Part.kept_of_ready hs ?_
  unfold glyphStep
  dsimp only
  split
  · split
    · split
      · exact Part.kept_congr (hwrite _) rfl rfl rfl rfl rfl rfl
      · exact carryOn_kept (hwrite _)
    · exact p.kept_refl _
  · exact p.kept_refl _

theorem withCommand_kept {code : Byte} {k : Fin 4 → Executing → Option (List Byte) → State → State}
    (hs : p.ofFrameStart → s.settled) (hk : ∀ e x ops, p.kept s.ready (k e x ops s.ready)) :
    p.kept s (withCommand code k s) := by
  refine Part.kept_of_ready hs ?_
  rcases withCommand_cases code k s with h | ⟨e, x, -, -, -, -, h⟩
  · rw [h]
    exact p.kept_refl _
  · rw [h]
    exact hk e x _

theorem closeSession_kept {e : Fin 4} {x : Executing} {ops : Option (List Byte)} (hp : p ∉ [Part.staged, .queue]) :
    p.kept s (closeSession e x ops s) := by
  unfold closeSession
  split
  · cases p
    case staged | queue => exact absurd hp (by decide)
    all_goals rfl
  · exact endPacket_kept

theorem clearCounters_kept {e : Fin 4} {x : Executing} {ops : Option (List Byte)} (hp : p ≠ .failures) :
    p.kept s (clearCounters e x ops s) := by
  unfold clearCounters
  split
  · split_ifs
    · exact conclude_kept (readStatus_keeps hp)
    · exact p.kept_refl s
  · exact p.kept_refl s

theorem resetDevice_kept {e : Fin 4} {x : Executing} {ops : Option (List Byte)}
    (hp : p ∉ [Part.live, .staged, .queue, .settings, .failures]) : p.kept s (resetDevice e x ops s) := by
  unfold resetDevice
  split
  · split_ifs
    · cases p
      case cells | glyphs => rfl
      all_goals exact absurd hp (by decide)
    · exact endPacket_kept
  · exact endPacket_kept

theorem syncCommit_kept (hs : p.ofFrameStart → s.settled) : p.kept s (syncCommit s) := by
  have hrecord (record : CommitRecord) :
      p.kept s.ready { s.ready with scene := { s.ready.scene with commit := record } } := by
    cases p <;> simp [Part.kept]
  refine Part.kept_of_ready hs ?_
  unfold syncCommit
  dsimp only
  split
  · split_ifs
    · split
      · split <;> exact endPacket_kept
      · split
        · exact carryOnBroadcast_kept (hrecord _)
        · exact setEngine_kept _ (p.kept_refl _)
    · exact p.kept_refl _
  · exact p.kept_refl _

end EngineRows

/-! ### The rows of the stages (R12): with the last frame start complete they do not arise -/

section StageRows

variable {P : Prop} {s : State}

/-- A stage row changes no store and no setting, and, with nothing owed, nothing but LINK OUT. -/
theorem untouched_of_stage {t : State} (hcells : t.cells = s.cells) (hglyphs : t.glyphs = s.glyphs)
    (hsettings : t.settings = s.settings) (hrx : t.rx = s.rx) (hP : P → t = s.quiet) : Untouched P s t := by
  refine ⟨hcells, hglyphs, hsettings, by rw [hrx], fun h => ?_, fun h => ?_, fun h => ?_, fun h => ?_⟩ <;>
    (rw [hP h]; rfl)

theorem execApplyTeardown_untouched (hs : P → s.settled) :
    Untouched P s (if s.scene.stage = .teardownDue then teardownStage s.quiet else s.quiet) := by
  apply untouched_of_stage
  case hP =>
    intro h
    rw [if_neg]
    rw [(hs h).1]
    decide
  all_goals split_ifs <;> rfl

theorem finishScene_quiet_untouched (hs : P → s.settled) : Untouched P s (finishScene s.quiet) :=
  untouched_of_stage (by simp) (by simp) (by simp) (by simp) fun h => finishScene_settled s.quiet (hs h).1

theorem blinkToggle_untouched (hs : P → s.settled) : Untouched P s (blinkCompare (finishScene s.quiet)) := by
  refine untouched_of_stage (by simp) (by simp) (by simp) (by simp) fun h => ?_
  rw [finishScene_settled s.quiet (hs h).1]
  exact if_pos (hs h).2.2.2

theorem sessionExpiry_untouched (hs : P → s.settled) : Untouched P s (sessionExpiry s.quiet) := by
  have hframe : (sessionExpiry s.quiet).cells = s.cells ∧ (sessionExpiry s.quiet).glyphs = s.glyphs
      ∧ (sessionExpiry s.quiet).settings = s.settings ∧ (sessionExpiry s.quiet).rx = s.rx := by
    unfold sessionExpiry
    dsimp only
    repeat' split
    all_goals simp
  obtain ⟨hcells, hglyphs, hsettings, hrx⟩ := hframe
  refine untouched_of_stage hcells hglyphs hsettings hrx fun h => ?_
  have hends : s.quiet.expiringEntries = [] := (hs h).2.1
  simp [sessionExpiry, hends]

end StageRows

/-! ### Every row -/

/-- A row changes no held part but those `changedBy` lists; the scenes and the queue are held with the last frame start
complete. -/
theorem exec_kept (c : Instr) (s t : State) (p : Part) (hexec : exec c s = .next t) (hp : p ∉ changedBy c s)
    (hs : p.ofFrameStart → s.settled) : p.kept s t := by
  have hready : Untouched p.ofFrameStart s s.ready := ready_untouched hs
  cases c <;> cases hexec
  case resetnAsserted =>
    cases p
    case cells | glyphs => rfl
    all_goals exact absurd hp (by simp [changedBy])
  case resetnReleased =>
    refine Part.kept_of_ready hs ?_
    split_ifs
    · exact Part.kept_congr (p.kept_refl _) rfl rfl rfl rfl rfl rfl
    · exact p.kept_refl _
  case initialisationSweepEnd =>
    refine Part.kept_of_ready hs ?_
    dsimp only
    split_ifs
    · cases p
      case cells | glyphs => exact absurd hp (by simp [changedBy])
      all_goals simp [Part.kept]
    · exact p.kept_refl _
  case frameStart =>
    by_cases hlock : s.rx.lock = .locked
    · have hframe : ¬ p.ofFrameStart := Part.not_ofFrameStart (by simpa [changedBy, hlock] using hp)
      exact Part.kept_of_untouched (inputSymbol_untouched (P := p.ofFrameStart) hs fun h => absurd h hframe) id
    · exact Part.kept_of_untouched (inputSymbol_untouched hs fun _ _ => hlock) id
  case lineStart | pixel | lineEnd | frameEnd =>
    exact Part.kept_of_untouched (inputSymbol_untouched hs nofun) id
  case packetReceived run =>
    refine Part.kept_of_ready hs (Part.kept_of_arrival ?_ hp)
    split
    · exact ⟨rfl, rfl, rfl, rfl⟩
    · exact receivePacket_arrival run
  case watchdogExpiry =>
    refine Part.kept_of_untouched (hready.trans ?_) id
    split_ifs
    · exact expireWatchdog_untouched
    · exact .refl
  case generatedFrameStart =>
    refine Part.kept_of_untouched (hready.trans ?_) id
    have hbegin {g : Geometry} {pos : GenPos} {period : Nat} (h : s.ready.tx.generator = .running g pos period) :
        Untouched p.ofFrameStart s.ready (beginGeneratedFrame g s.ready) := by
      have hrun : s.tx.generator = .running g pos period := by simpa using h
      exact beginGeneratedFrame_untouched (Part.not_ofFrameStart (by simpa [changedBy, hrun] using hp))
    split
    · next h => exact hbegin h
    · next h =>
      split
      · exact hbegin h
      · exact .refl
    · exact .refl
  case generatedSymbol =>
    refine Part.kept_of_untouched (hready.trans ?_) id
    split
    · exact generateSymbol_untouched
    · exact .refl
  case relockSwitch =>
    refine Part.kept_of_untouched (hready.trans ?_) id
    split
    · exact enterLocked_untouched.after (closeGap_untouched.trans untouched_link)
    · exact .refl
  case applyTeardown => exact Part.kept_of_untouched (execApplyTeardown_untouched hs) id
  case applyCommit => exact Part.kept_of_untouched (finishScene_quiet_untouched hs) id
  case blinkToggle => exact Part.kept_of_untouched (blinkToggle_untouched hs) id
  case sessionExpiry => exact Part.kept_of_untouched (sessionExpiry_untouched hs) id
  case takeHeadPacket =>
    refine Part.kept_of_ready hs ?_
    have htake : p.kept s.ready (takeHead s.ready) := takeHead_kept (by simpa [changedBy] using hp)
    split
    · exact p.kept_refl _
    all_goals exact htake
  case cellStep => exact cellStep_kept hs (by simpa [changedBy] using hp)
  case glyphStep => exact glyphStep_kept hs (by simpa [changedBy] using hp)
  case closeSession => exact withCommand_kept hs fun _ _ _ => closeSession_kept hp
  case clearCounters => exact withCommand_kept hs fun _ _ _ => clearCounters_kept (by simpa [changedBy] using hp)
  case resetDevice => exact withCommand_kept hs fun _ _ _ => resetDevice_kept hp
  case syncCommit => exact syncCommit_kept hs
  case readStatus => exact runCommand_kept hs fun _ _ _ => readStatus_keeps (by simpa [changedBy] using hp)
  case deviceSettings => exact runCommand_kept hs fun _ _ _ => deviceSettings_keeps (by simpa [changedBy] using hp)
  case writeCells => exact runCommand_kept hs fun _ _ _ => writeCells_keeps (by simpa [changedBy] using hp)
  case writeGlyphRows => exact runCommand_kept hs fun _ _ _ => writeGlyphRows_keeps (by simpa [changedBy] using hp)
  case discard => exact runCommand_kept hs fun _ _ _ => discard_keeps (by simpa [changedBy] using hp)
  all_goals exact runCommand_kept hs fun _ _ _ => by simp

/-- A part that some row may have changed: the row is one of those that `changedBy` lists it for. -/
theorem exec_kept_or (c : Instr) (s t : State) (p : Part) (hexec : exec c s = .next t)
    (hs : p.ofFrameStart → s.settled) : p.kept s t ∨ p ∈ changedBy c s := by
  by_cases hp : p ∈ changedBy c s
  · exact Or.inr hp
  · exact Or.inl (exec_kept c s t p hexec hp hs)

/-- Settles O55. -/
theorem scenesAndStoresChangeAtTheirRows : Obligations.ScenesAndStoresChangeAtTheirRows := by
  refine ⟨fun c s t hs hexec => ⟨?live, fun hpending => ?staged, ?queue⟩,
    fun c s t hexec => ⟨?cells, ?glyphs, ?settings, ?failures⟩⟩
  case live =>
    refine (exec_kept_or c s t .live hexec fun _ => hs).imp_right fun hp => ?_
    cases c <;> simp [changedBy] at hp ⊢ <;> assumption
  case staged =>
    refine (exec_kept_or c s t .staged hexec fun _ => hs).imp (fun h => h hpending) fun hp => ?_
    cases c <;> simp [changedBy] at hp ⊢
  case queue =>
    refine (exec_kept_or c s t .queue hexec fun _ => hs).imp_right fun hp => ?_
    cases c <;> simp [changedBy] at hp ⊢
  case cells =>
    refine (exec_kept_or c s t .cells hexec False.elim).imp_right fun hp => ?_
    cases c <;> simp [changedBy] at hp ⊢
  case glyphs =>
    refine (exec_kept_or c s t .glyphs hexec False.elim).imp_right fun hp => ?_
    cases c <;> simp [changedBy] at hp ⊢
  case settings =>
    refine (exec_kept_or c s t .settings hexec False.elim).imp_right fun hp => ?_
    cases c <;> simp [changedBy] at hp ⊢
  case failures =>
    refine (exec_kept_or c s t .failures hexec False.elim).imp_right fun hp => ?_
    cases c <;> simp [changedBy] at hp ⊢

end Sys2Proof.Machine

namespace Sys2Proof.Machine

/-! ### The law of one scene (R23, R29, R78, R79) -/

/-- The laws of one scene together. -/
def SceneLaw (sc : Scene) : Prop := RecordsLaw sc ∧ OrderLaw sc ∧ ColourLaw sc

theorem scene_reset_sceneLaw : SceneLaw Scene.reset := scene_reset_laws

/-- An Order of distinct slots cannot list more than 8. -/
theorem orderLaw_of_nodup {sc : Scene} (hnodup : sc.order.Nodup)
    (hclaimed : ∀ k ∈ sc.order, (sc.windows[k]).isSome = true) : OrderLaw sc :=
  ⟨hnodup.length_le_card, hnodup, hclaimed⟩

theorem release_order_mem {sc : Scene} {slot k : Fin 8} (h : k ∈ (sc.release slot).order) :
    k ∈ sc.order ∧ k ≠ slot := by simpa [Scene.release] using h

theorem release_sceneLaw (slot : Fin 8) {sc : Scene} (h : SceneLaw sc) : SceneLaw (sc.release slot) := by
  obtain ⟨hrecords, ⟨-, hnodup, hclaimed⟩, hcolour⟩ := h
  refine ⟨fun k r hk => ?records, orderLaw_of_nodup (hnodup.filter _) fun k hk => ?claimed, hcolour⟩
  case records =>
    rw [release_window] at hk
    split_ifs at hk
    exact hrecords k r hk
  case claimed =>
    obtain ⟨hmem, hne⟩ := release_order_mem hk
    rw [release_window, if_neg hne]
    exact hclaimed k hmem

theorem foldl_release_sceneLaw (slots : List (Fin 8)) {sc : Scene} (h : SceneLaw sc) :
    SceneLaw (slots.foldl Scene.release sc) := by
  induction slots generalizing sc with
  | nil => exact h
  | cons slot rest ih => exact ih (release_sceneLaw slot h)

theorem set_window (windows : Vector (Option WindowRecord) 8) (slot k : Fin 8) (w : Option WindowRecord) :
    (windows.set slot w)[k] = if k = slot then w else windows[k] := by
  simp [Vector.getElem_set, Fin.ext_iff, eq_comm]

/-- Claiming a slot, or rewriting its record, leaves every listed slot claimed. -/
theorem writeRecord_sceneLaw {sc : Scene} {slot : Fin 8} {r : WindowRecord} (h : SceneLaw sc) (hr : RecordLaw r) :
    SceneLaw { sc with windows := sc.windows.set slot (some r) } := by
  obtain ⟨hrecords, ⟨-, hnodup, hclaimed⟩, hcolour⟩ := h
  refine ⟨fun k r' hk => ?records, orderLaw_of_nodup hnodup fun k hk => ?claimed, hcolour⟩
  case records =>
    rw [set_window] at hk
    split_ifs at hk
    · cases hk
      exact hr
    · exact hrecords k r' hk
  case claimed =>
    rw [set_window]
    split_ifs
    · rfl
    · exact hclaimed k hk

/-- The Order alone may be replaced by one that lists distinct claimed slots. -/
theorem writeOrder_sceneLaw {sc : Scene} {order : List (Fin 8)} (h : SceneLaw sc) (hnodup : order.Nodup)
    (hclaimed : ∀ k ∈ order, (sc.windows[k]).isSome = true) : SceneLaw { sc with order := order } := by
  obtain ⟨hrecords, -, hcolour⟩ := h
  exact ⟨hrecords, orderLaw_of_nodup hnodup hclaimed, hcolour⟩

/-! ### Placing a slot in the Order (R40) -/

theorem insertAbove_perm (slot reference : Fin 8) (order : List (Fin 8)) :
    (insertAbove slot reference order).Perm (slot :: order) := by
  induction order with
  | nil => exact .refl _
  | cons k rest ih =>
    unfold insertAbove
    split_ifs
    · exact .refl _
    · exact (ih.cons k).trans (.swap slot k rest)

theorem insertBelow_perm (slot reference : Fin 8) (order : List (Fin 8)) :
    (insertBelow slot reference order).Perm (slot :: order) := by
  induction order with
  | nil => exact .refl _
  | cons k rest ih =>
    unfold insertBelow
    split_ifs
    · exact .swap slot k rest
    · exact (ih.cons k).trans (.swap slot k rest)

/-- Wherever a slot is placed, the Order lists it once and the others as before. -/
theorem place_perm (slot : Fin 8) (p : Placement) (order : List (Fin 8)) :
    (place slot p order).Perm (slot :: order.filter (· ≠ slot)) := by
  cases p with
  | front => exact .refl _
  | back => exact List.perm_append_singleton ..
  | above reference => exact insertAbove_perm ..
  | below reference => exact insertBelow_perm ..

theorem place_sceneLaw {sc : Scene} {slot : Fin 8} (p : Placement) (h : SceneLaw sc)
    (hslot : (sc.windows[slot]).isSome = true) : SceneLaw { sc with order := place slot p sc.order } := by
  have ⟨_, ⟨_, hnodup, hclaimed⟩, _⟩ := h
  have hperm := place_perm slot p sc.order
  refine writeOrder_sceneLaw h ?nodup fun k hk => ?claimed
  case nodup => exact hperm.nodup_iff.2 (List.nodup_cons.2 ⟨by simp, hnodup.filter _⟩)
  case claimed =>
    rcases List.mem_cons.1 (hperm.mem_iff.1 hk) with rfl | hk
    · exact hslot
    · exact hclaimed k (List.mem_of_mem_filter hk)

theorem hide_sceneLaw {sc : Scene} (slot : Fin 8) (h : SceneLaw sc) :
    SceneLaw { sc with order := sc.order.filter (· ≠ slot) } := by
  have ⟨_, ⟨_, hnodup, hclaimed⟩, _⟩ := h
  exact writeOrder_sceneLaw h (hnodup.filter _) fun k hk => hclaimed k (List.mem_of_mem_filter hk)

/-! ### The colour tables (R78, R86) -/

theorem overlay_getElem {α : Type} {n : Nat} (first : Nat) (xs : List α) (v : Vector α n) (i : Fin n) :
    (overlay first xs v)[i] = if first ≤ i.1 then (xs[i.1 - first]?).getD v[i] else v[i] := by
  simp [overlay]

/-- Every entry of an overlaid table stood in the table or in the list. -/
theorem overlay_getElem_cases {α : Type} {n : Nat} (first : Nat) (xs : List α) (v : Vector α n) (i : Fin n) :
    (overlay first xs v)[i] = v[i] ∨ (overlay first xs v)[i] ∈ xs := by
  rw [overlay_getElem]
  split_ifs
  · cases hx : xs[i.1 - first]? with
    | none => exact Or.inl rfl
    | some a => exact Or.inr (List.mem_of_getElem? hx)
  · exact Or.inl rfl

theorem coverage_of_colourEntriesOf {bytes : List Byte} {xs : List ColourEntry} (h : colourEntriesOf bytes = some xs) :
    ∀ c ∈ xs, c.coverage ≤ 8 := by
  induction bytes using colourEntriesOf.induct generalizing xs with
  | case1 =>
    cases h
    exact nofun
  | case2 r g b c rest hc ys hrest ih =>
    simp only [colourEntriesOf, hc, hrest, if_true] at h
    cases h
    exact List.forall_mem_cons.2 ⟨hc, ih hrest⟩
  | case3 r g b c rest hc hrest ih => simp [colourEntriesOf, hrest] at h
  | case4 r g b c rest hc => simp [colourEntriesOf, hc] at h
  | case5 bytes hnil hcons => simp [colourEntriesOf] at h

theorem overlay_coverage {colours : Vector ColourEntry 256} {first : Nat} {xs : List ColourEntry}
    (h : ∀ i : Fin 256, (colours[i]).coverage ≤ 8) (hxs : ∀ c ∈ xs, c.coverage ≤ 8) (i : Fin 256) :
    ((overlay first xs colours)[i]).coverage ≤ 8 := by
  rcases overlay_getElem_cases first xs colours i with hi | hi
  · rw [hi]
    exact h i
  · exact hxs _ hi

/-- The colour state alone may be replaced by one in its ranges. -/
theorem writeColours_sceneLaw {sc sc' : Scene} (h : SceneLaw sc) (hwindows : sc'.windows = sc.windows)
    (horder : sc'.order = sc.order) (hcolour : ColourLaw sc') : SceneLaw sc' := by
  obtain ⟨hrecords, hlaw, -⟩ := h
  refine ⟨?_, ?_, hcolour⟩
  · simpa [RecordsLaw, hwindows] using hrecords
  · simpa [OrderLaw, hwindows, horder] using hlaw

theorem overlayColours_sceneLaw {sc : Scene} {first : Nat} {xs : List ColourEntry} (h : SceneLaw sc)
    (hxs : ∀ c ∈ xs, c.coverage ≤ 8) : SceneLaw { sc with colours := overlay first xs sc.colours } := by
  have ⟨_, _, hcoverage, hblink⟩ := h
  exact writeColours_sceneLaw h rfl rfl ⟨overlay_coverage hcoverage hxs, hblink⟩

end Sys2Proof.Machine

namespace Sys2Proof.Machine

/-! ### The law of one record (R23, Table 9) -/

/-- The ranges of the fields that are no optional parts. -/
def WindowRecord.fieldsInRange (r : WindowRecord) : Prop :=
  r.x ≤ 4095 ∧ r.y ≤ 2303 ∧ 1 ≤ r.columns ∧ r.columns ≤ 160 ∧ 1 ≤ r.rows ∧ r.rows ≤ 120
  ∧ 4 ≤ r.cellWidth ∧ r.cellWidth ≤ 16 ∧ 4 ≤ r.cellHeight ∧ r.cellHeight ≤ 32
  ∧ r.columns ≤ r.pitch ∧ r.pitch ≤ 255 ∧ r.base ≤ 16383 ∧ r.fine < r.cellHeight
  ∧ r.bankA ≤ 7 ∧ r.bankB ≤ 7 ∧ r.underlineLine ≤ 31

/-- The ranges of the cursor, where there is one. -/
def cursorInRange (cursor : Option Cursor) : Prop :=
  ∀ c, cursor = some c → c.cell ≤ 16383 ∧ c.startLine ≤ 31 ∧ c.endLine ≤ 31

/-- The range of the border's width, where there is one. -/
def borderInRange (border : Option Border) : Prop := ∀ b, border = some b → 1 ≤ b.width ∧ b.width ≤ 8

/-- The ranges of the split, where there is one, in a window of `rows` rows. -/
def splitInRange (rows : Nat) (split : Option Split) : Prop :=
  ∀ p, split = some p → 1 ≤ p.row ∧ p.row ≤ rows - 1 ∧ p.base ≤ 16383

/-- The law of a record, part by part: each record command writes one of these. -/
theorem recordLaw_iff (r : WindowRecord) : RecordLaw r ↔ r.fieldsInRange ∧ cursorInRange r.cursor
    ∧ borderInRange r.border ∧ splitInRange r.rows r.split ∧ footprintHeight r ≤ 2304 := by
  simp only [RecordLaw, WindowRecord.fieldsInRange, and_assoc]
  rfl

theorem claimedRecord_law (e : Fin 4) : RecordLaw (claimedRecord e) := by
  refine (recordLaw_iff _).2 ⟨?_, nofun, nofun, nofun, ?_⟩
  · simp [WindowRecord.fieldsInRange, claimedRecord]
  · simp [footprintHeight, claimedRecord]

theorem moved_law {r : WindowRecord} {x y : Nat} (h : RecordLaw r) (hx : x ≤ 4095) (hy : y ≤ 2303) :
    RecordLaw { r with x := x, y := y } := by
  obtain ⟨-, -, hrest⟩ := h
  exact ⟨hx, hy, hrest⟩

theorem scrolled_law {r : WindowRecord} {base fine : Nat} (h : RecordLaw r) (hbase : base ≤ 16383)
    (hfine : fine < r.cellHeight) : RecordLaw { r with base := base, fine := fine } := by
  rw [recordLaw_iff] at h ⊢
  obtain ⟨hfields, hparts⟩ := h
  obtain ⟨hx, hy, hc, hc', hr, hr', hw, hw', hh, hh', hp, hp', -, -, hrest⟩ := hfields
  exact ⟨⟨hx, hy, hc, hc', hr, hr', hw, hw', hh, hh', hp, hp', hbase, hfine, hrest⟩, hparts⟩

theorem withCursor_law {r : WindowRecord} {cursor : Option Cursor} (h : RecordLaw r) (hcursor : cursorInRange cursor) :
    RecordLaw { r with cursor := cursor } := by
  rw [recordLaw_iff] at h ⊢
  obtain ⟨hfields, -, hrest⟩ := h
  exact ⟨hfields, hcursor, hrest⟩

theorem withBorder_law {r : WindowRecord} {border : Option Border} (h : RecordLaw r) (hborder : borderInRange border)
    (hheight : footprintHeight { r with border := border } ≤ 2304) : RecordLaw { r with border := border } := by
  rw [recordLaw_iff] at h ⊢
  obtain ⟨hfields, hcursor, -, hsplit, -⟩ := h
  exact ⟨hfields, hcursor, hborder, hsplit, hheight⟩

theorem withKey_law {r : WindowRecord} {key : Option Key} (h : RecordLaw r) : RecordLaw { r with key := key } := h

theorem withSplit_law {r : WindowRecord} {split : Option Split} (h : RecordLaw r)
    (hsplit : splitInRange r.rows split) : RecordLaw { r with split := split } := by
  rw [recordLaw_iff] at h ⊢
  obtain ⟨hfields, hcursor, hborder, -, hheight⟩ := h
  exact ⟨hfields, hcursor, hborder, hsplit, hheight⟩

/-- Without its border a window is no higher. -/
theorem footprintHeight_borderless_le (r : WindowRecord) :
    footprintHeight { r with border := none } ≤ footprintHeight r := by
  cases hb : r.border <;> simp [footprintHeight, hb]

theorem without_law {r : WindowRecord} (p : PartName) (h : RecordLaw r) : RecordLaw (r.without p) := by
  cases p with
  | cursor => exact withCursor_law h nofun
  | border =>
    obtain ⟨-, -, -, -, hheight⟩ := (recordLaw_iff r).1 h
    exact withBorder_law h nofun ((footprintHeight_borderless_le r).trans hheight)
  | key => exact withKey_law h
  | split => exact withSplit_law h nofun

/-! ### What check 2 lets into a record (R32 to R38) -/

theorem cellIndexOf_le {hi lo : Byte} {i : Nat} (h : cellIndexOf hi lo = some i) : i ≤ 16383 := by
  unfold cellIndexOf at h
  split_ifs at h with hle
  cases h
  exact hle

theorem cursorOf_inRange {ch cl start stop blink : Byte} {c : Cursor} (h : cursorOf ch cl start stop blink = some c) :
    cursorInRange (some c) := by
  unfold cursorOf at h
  split at h
  · next i b hi hb =>
    split_ifs at h with hle
    cases h
    rintro _ ⟨⟩
    exact ⟨cellIndexOf_le hi, hle⟩
  · cases h

theorem borderOf_inRange {width colour : Byte} {p : Border} (h : borderOf width colour = some p) :
    borderInRange (some p) := by
  unfold borderOf at h
  split_ifs at h with hle
  cases h
  rintro _ ⟨⟩
  exact hle

theorem splitOf_inRange {row bh bl : Byte} {p : Split} {rows : Nat} (h : splitOf row bh bl = some p)
    (hrow : p.row ≤ rows - 1) : splitInRange rows (some p) := by
  unfold splitOf at h
  split at h
  · next base hbase =>
    split_ifs at h with hle
    cases h
    rintro _ ⟨⟩
    exact ⟨hle.1, hrow, cellIndexOf_le hbase⟩
  · cases h

/-- A record group replaces the fields by fields in their ranges, and leaves the parts (R32). -/
theorem recordGroupOf_inRange {old r : WindowRecord} {group : List Byte} (h : recordGroupOf old group = some r) :
    r.fieldsInRange ∧ r.cursor = old.cursor ∧ r.border = old.border ∧ r.split = old.split := by
  unfold recordGroupOf at h
  split at h
  · next xh xl yh yl cols rows cw ch pitch bh bl fine ba bb pal opts ul =>
    split at h
    · split_ifs at h with hle
      cases h
      have hpitch := pitch.isLt
      refine ⟨?_, rfl, rfl, rfl⟩
      simp only [WindowRecord.fieldsInRange]
      omega
    · cases h
  · cases h

/-- The record check of R32: the footprint, and the split's row. -/
theorem partsFit_iff (r : WindowRecord) :
    partsFit r = true ↔ footprintHeight r ≤ 2304 ∧ ∀ p, r.split = some p → p.row ≤ r.rows - 1 := by
  cases hp : r.split <;> simp [partsFit, hp]

/-- R32: new fields under the old parts, where the parts still fit. -/
theorem regrouped_law {old r : WindowRecord} {group : List Byte} (h : RecordLaw old)
    (hgroup : recordGroupOf old group = some r) (hfit : partsFit r = true) : RecordLaw r := by
  obtain ⟨hfields, hc, hb, hs⟩ := recordGroupOf_inRange hgroup
  obtain ⟨hheight, hrow⟩ := (partsFit_iff r).1 hfit
  rw [recordLaw_iff] at h ⊢
  obtain ⟨-, hcursor, hborder, hsplit, -⟩ := h
  rw [hc, hb]
  refine ⟨hfields, hcursor, hborder, fun p hp => ?_, hheight⟩
  obtain ⟨hfirst, -, hbase⟩ := hsplit p (hs ▸ hp)
  exact ⟨hfirst, hrow p hp, hbase⟩

end Sys2Proof.Machine

namespace Sys2Proof.Machine

/-! ### The law of both scenes under a command of the packet (R163) -/

/-- The law of the staged and of the live scene. -/
def ScenesLaw (s : State) : Prop := SceneLaw s.scene.staged ∧ SceneLaw s.scene.live

theorem scenesLaw_congr {s t : State} (h : ScenesLaw s) (hstaged : t.scene.staged = s.scene.staged)
    (hlive : t.scene.live = s.scene.live) : ScenesLaw t := by
  unfold ScenesLaw
  rw [hstaged, hlive]
  exact h

theorem scenesLaw_of_scene {s t : State} (h : ScenesLaw s) (hscene : t.scene = s.scene) : ScenesLaw t :=
  scenesLaw_congr h (by rw [hscene]) (by rw [hscene])

theorem setStaged_scenesLaw {s : State} {sc : Scene} (h : ScenesLaw s) (hsc : SceneLaw sc) :
    ScenesLaw (s.setStaged sc) := ⟨hsc, h.2⟩

/-- A verdict on a command in state `s` leaves scenes that keep their law. -/
def Verdict.lawful (s : State) (v : Verdict) : Prop := ScenesLaw (v.stateFrom s)

theorem conclude_scenesLaw {e : Fin 4} {x : Executing} {s : State} {v : Verdict} (h : v.lawful s) :
    ScenesLaw (conclude e x s v) := scenesLaw_of_scene h (by simp)

section Lawful

variable {s : State} {e : Fin 4} {x : Executing} {ops : List Byte} {slot : Fin 8}

theorem lawful_read {t : State} {data : List Byte} (h : ScenesLaw s) (ht : ScenesLaw t) :
    (Verdict.read x t data).lawful s := by
  unfold Verdict.read
  split_ifs
  · exact ht
  · exact h

theorem lawful_noOperands {v : Verdict} (h : ScenesLaw s) (hv : v.lawful s) : (noOperands ops v).lawful s := by
  unfold noOperands
  split
  · exact hv
  · exact h

theorem lawful_controlOnly {v : Verdict} (h : ScenesLaw s) (hv : v.lawful s) : (controlOnly e s v).lawful s := by
  unfold controlOnly
  split_ifs
  · exact hv
  · exact h

theorem lawful_withinExtents {targets : List Nat} {v : Verdict} (h : ScenesLaw s) (hv : v.lawful s) :
    (withinExtents e s targets v).lawful s := by
  unfold withinExtents
  split_ifs
  · exact h
  · exact hv

theorem lawful_unsealed {v : Verdict} (h : ScenesLaw s) (hv : v.lawful s) : (unsealed s v).lawful s := by
  unfold unsealed
  split_ifs
  · exact h
  · exact hv

theorem lawful_withWindow {k : WindowRecord → Verdict} (h : ScenesLaw s)
    (hk : ∀ r, s.scene.staged.windows[slot] = some r → (k r).lawful s) : (withWindow e slot s k).lawful s := by
  unfold withWindow
  split
  · exact h
  · next r hr =>
    split_ifs
    · exact h
    · exact lawful_unsealed h (hk r hr)

/-- An edit that keeps the law of one record keeps the law of both scenes. -/
theorem lawful_editWindow {edit : WindowRecord → Option WindowRecord} (h : ScenesLaw s)
    (hedit : ∀ r r', RecordLaw r → edit r = some r' → RecordLaw r') : (editWindow e slot s edit).lawful s := by
  refine lawful_withWindow h fun r hr => ?_
  split
  · next r' hr' =>
    obtain ⟨hrecords, -⟩ := h.1
    exact setStaged_scenesLaw h (writeRecord_sceneLaw h.1 (hedit r r' (hrecords slot r hr) hr'))
  · exact h

/-! ### Commands that write no scene -/

@[simp] theorem keepalive_lawful (h : ScenesLaw s) : (keepalive e x ops s).lawful s := lawful_noOperands h h

@[simp] theorem identify_lawful (h : ScenesLaw s) : (identify e x ops s).lawful s := lawful_noOperands h (lawful_read h h)

@[simp] theorem openSessionCommand_lawful (h : ScenesLaw s) : (openSessionCommand e x ops s).lawful s := by
  unfold openSessionCommand
  repeat' split
  all_goals exact h

@[simp] theorem readStatus_lawful (h : ScenesLaw s) : (readStatus e x ops s).lawful s := by
  unfold readStatus
  split
  · split_ifs
    · exact lawful_read h h
    · refine lawful_controlOnly h ?_
      unfold Verdict.read
      split_ifs <;> exact h
    · exact h
  · exact h

@[simp] theorem deviceSettings_lawful (h : ScenesLaw s) : (deviceSettings e x ops s).lawful s := by
  unfold deviceSettings
  repeat' split
  · exact lawful_controlOnly h h
  all_goals exact h

@[simp] theorem readWindow_lawful (h : ScenesLaw s) : (readWindow e x ops s).lawful s := by
  unfold readWindow
  repeat' split
  · exact lawful_read h h
  all_goals exact h

@[simp] theorem readOrder_lawful (h : ScenesLaw s) : (readOrder e x ops s).lawful s := by
  unfold readOrder
  repeat' split
  · exact lawful_read h h
  all_goals exact h

@[simp] theorem writeCells_lawful (h : ScenesLaw s) : (writeCells e x ops s).lawful s := by
  unfold writeCells
  repeat' split
  · exact lawful_withinExtents h (scenesLaw_of_scene h (by simp [Verdict.stateFrom]))
  all_goals exact h

@[simp] theorem fillCells_lawful (h : ScenesLaw s) : (fillCells e x ops s).lawful s := by
  unfold fillCells
  repeat' split
  · exact lawful_withinExtents h h
  all_goals exact h

@[simp] theorem copyCells_lawful (h : ScenesLaw s) : (copyCells e x ops s).lawful s := by
  unfold copyCells
  repeat' split
  · exact lawful_withinExtents h h
  all_goals exact h

@[simp] theorem readCells_lawful (h : ScenesLaw s) : (readCells e x ops s).lawful s := by
  unfold readCells
  repeat' split
  · exact lawful_read h h
  all_goals exact h

@[simp] theorem findCells_lawful (h : ScenesLaw s) : (findCells e x ops s).lawful s := by
  unfold findCells
  repeat' split
  all_goals exact h

@[simp] theorem writeGlyphRows_lawful (h : ScenesLaw s) : (writeGlyphRows e x ops s).lawful s := by
  unfold writeGlyphRows
  repeat' split
  · exact lawful_controlOnly h h
  all_goals exact h

@[simp] theorem clearBank_lawful (h : ScenesLaw s) : (clearBank e x ops s).lawful s := by
  unfold clearBank
  repeat' split
  · exact lawful_controlOnly h h
  all_goals exact h

@[simp] theorem readGlyph_lawful (h : ScenesLaw s) : (readGlyph e x ops s).lawful s := by
  unfold readGlyph
  repeat' split
  · exact lawful_read h h
  all_goals exact h

@[simp] theorem readPalette_lawful (h : ScenesLaw s) : (readPalette e x ops s).lawful s := by
  unfold readPalette
  repeat' split
  · exact lawful_read h h
  all_goals exact h

@[simp] theorem readColours_lawful (h : ScenesLaw s) : (readColours e x ops s).lawful s := by
  unfold readColours
  repeat' split
  · exact lawful_read h h
  all_goals exact h

@[simp] theorem commit_lawful (h : ScenesLaw s) : (commit e x ops s).lawful s := by
  unfold commit
  repeat' split
  all_goals exact h

/-! ### Commands that write the staged scene -/

@[simp] theorem discard_lawful (h : ScenesLaw s) : (discard e x ops s).lawful s :=
  lawful_noOperands h ⟨foldl_release_sceneLaw s.scene.teardown h.2, h.2⟩

@[simp] theorem claimWindow_lawful (h : ScenesLaw s) : (claimWindow e x ops s).lawful s := by
  refine lawful_noOperands h (lawful_unsealed h ?_)
  split
  · exact h
  · exact lawful_read h (setStaged_scenesLaw h (writeRecord_sceneLaw h.1 (claimedRecord_law e)))

@[simp] theorem releaseWindow_lawful (h : ScenesLaw s) : (releaseWindow e x ops s).lawful s := by
  unfold releaseWindow
  split
  · split
    · exact lawful_withWindow h fun _ _ => setStaged_scenesLaw h (release_sceneLaw _ h.1)
    · exact h
  · exact h

@[simp] theorem hideWindow_lawful (h : ScenesLaw s) : (hideWindow e x ops s).lawful s := by
  unfold hideWindow
  split
  · split
    · exact lawful_withWindow h fun _ _ => setStaged_scenesLaw h (hide_sceneLaw _ h.1)
    · exact h
  · exact h

@[simp] theorem showWindow_lawful (h : ScenesLaw s) : (showWindow e x ops s).lawful s := by
  have hshow (slot : Fin 8) (p : Placement) (r : WindowRecord) (hr : s.scene.staged.windows[slot] = some r) :
      ScenesLaw (s.setStaged { s.scene.staged with order := place slot p s.scene.staged.order }) :=
    setStaged_scenesLaw h (place_sceneLaw p h.1 (by rw [hr]; rfl))
  unfold showWindow
  split
  · split
    · split
      · refine lawful_withWindow h fun r hr => ?_
        dsimp only
        split_ifs
        · exact hshow _ _ r hr
        · exact h
      · exact h
    · exact h
  · exact h

@[simp] theorem setWindow_lawful (h : ScenesLaw s) : (setWindow e x ops s).lawful s := by
  unfold setWindow
  split
  · split
    · refine lawful_editWindow h fun r r' hr hedit => ?_
      split at hedit
      · next hgroup =>
        split_ifs at hedit with hfit
        cases hedit
        exact regrouped_law hr hgroup hfit
      · cases hedit
    · exact h
  · exact h

@[simp] theorem moveWindow_lawful (h : ScenesLaw s) : (moveWindow e x ops s).lawful s := by
  unfold moveWindow
  split
  · split
    · split_ifs with hle
      · refine lawful_editWindow h fun r r' hr hedit => ?_
        cases hedit
        exact moved_law hr hle.1 hle.2
      · exact h
    · exact h
  · exact h

@[simp] theorem setScroll_lawful (h : ScenesLaw s) : (setScroll e x ops s).lawful s := by
  unfold setScroll
  split
  · split
    · next hbase =>
      split_ifs
      · refine lawful_editWindow h fun r r' hr hedit => ?_
        split_ifs at hedit with hfine
        cases hedit
        exact scrolled_law hr (cellIndexOf_le hbase) hfine
      · exact h
    · exact h
  · exact h

@[simp] theorem setCursor_lawful (h : ScenesLaw s) : (setCursor e x ops s).lawful s := by
  unfold setCursor
  split
  · split
    · next hcursor =>
      refine lawful_editWindow h fun r r' hr hedit => ?_
      cases hedit
      exact withCursor_law hr (cursorOf_inRange hcursor)
    · exact h
  · exact h

@[simp] theorem setBorder_lawful (h : ScenesLaw s) : (setBorder e x ops s).lawful s := by
  unfold setBorder
  split
  · split
    · next hborder =>
      refine lawful_editWindow h fun r r' hr hedit => ?_
      split_ifs at hedit with hheight
      cases hedit
      exact withBorder_law hr (borderOf_inRange hborder) hheight
    · exact h
  · exact h

@[simp] theorem setKey_lawful (h : ScenesLaw s) : (setKey e x ops s).lawful s := by
  unfold setKey
  split
  · split
    · refine lawful_editWindow h fun r r' hr hedit => ?_
      cases hedit
      exact withKey_law hr
    · exact h
  · exact h

@[simp] theorem setSplit_lawful (h : ScenesLaw s) : (setSplit e x ops s).lawful s := by
  unfold setSplit
  split
  · split
    · next hsplit =>
      refine lawful_editWindow h fun r r' hr hedit => ?_
      split_ifs at hedit with hrow
      cases hedit
      exact withSplit_law hr (splitOf_inRange hsplit hrow)
    · exact h
  · exact h

@[simp] theorem clearPart_lawful (h : ScenesLaw s) : (clearPart e x ops s).lawful s := by
  unfold clearPart
  split
  · split
    · refine lawful_editWindow h fun r r' hr hedit => ?_
      cases hedit
      exact without_law _ hr
    · exact h
  · exact h

@[simp] theorem setPalette_lawful (h : ScenesLaw s) : (setPalette e x ops s).lawful s := by
  obtain ⟨-, -, hcolour⟩ := h.1
  unfold setPalette
  split
  · split
    · split_ifs
      · exact lawful_controlOnly h (lawful_unsealed h
          (setStaged_scenesLaw h (writeColours_sceneLaw h.1 rfl rfl hcolour)))
      · exact h
    · exact h
  · exact h

@[simp] theorem setColours_lawful (h : ScenesLaw s) : (setColours e x ops s).lawful s := by
  unfold setColours
  split
  · split
    · next hentries =>
      split_ifs
      · exact lawful_controlOnly h (lawful_unsealed h
          (setStaged_scenesLaw h (overlayColours_sceneLaw h.1 (coverage_of_colourEntriesOf hentries))))
      · exact h
    · exact h
  · exact h

@[simp] theorem setOptions_lawful (h : ScenesLaw s) : (setOptions e x ops s).lawful s := by
  obtain ⟨-, -, hcoverage, -⟩ := h.1
  unfold setOptions
  split
  · split_ifs with hperiod
    · exact lawful_controlOnly h (lawful_unsealed h
        (setStaged_scenesLaw h (writeColours_sceneLaw h.1 rfl rfl ⟨hcoverage, hperiod⟩)))
    · exact h
  · exact h

end Lawful

end Sys2Proof.Machine

namespace Sys2Proof.Machine

section ScenesLaw

variable {s t : State}

/-! ### The law of both scenes at a session end and a composited frame start (R12 to R17) -/

/-- R17: the teardown request takes slots out of staging and none out of the live scene. -/
theorem endSession_scenesLaw (e : Fin 4) (h : ScenesLaw s) : ScenesLaw (endSession e s) :=
  ⟨foldl_release_sceneLaw _ h.1, h.2⟩

theorem expireEntry_scenesLaw (e : Fin 4) (h : ScenesLaw s) : ScenesLaw (expireEntry e s) :=
  endSession_scenesLaw (s := { s with expired := s.expired ++ [(s.session e).peer] }) e h

theorem endSome_scenesLaw (due : List (Fin 4)) (h : ScenesLaw s) : ScenesLaw (endSome due s) := by
  induction due generalizing s with
  | nil => exact h
  | cons e rest ih =>
    unfold endSome
    dsimp only
    split_ifs
    · exact ih (expireEntry_scenesLaw (s := s.draw.2) e h)
    · exact h

theorem endsBeforeStore_scenesLaw (h : ScenesLaw s) : ScenesLaw (endsBeforeStore s) := by
  unfold endsBeforeStore
  split
  · exact h
  · exact endSome_scenesLaw _ h

theorem endExpired_scenesLaw (h : ScenesLaw s) : ScenesLaw (endExpired s) := by
  unfold endExpired
  generalize s.expiringEntries = due
  induction due generalizing s with
  | nil => exact h
  | cons e rest ih => exact ih (expireEntry_scenesLaw e h)

theorem teardownStage_scenesLaw (h : ScenesLaw s) : ScenesLaw (teardownStage s) :=
  ⟨h.1, foldl_release_sceneLaw s.scene.teardown h.2⟩

/-- R14: a due commit makes the staged scene live. -/
theorem commitStage_scenesLaw (advanced : Bool) (h : ScenesLaw s) : ScenesLaw (commitStage advanced s) := by
  by_cases hdue : s.scene.commitIsDue
  · have hcommitted : ScenesLaw { s with scene := s.scene.committed advanced } := ⟨h.1, h.1⟩
    rw [commitStage_of_due advanced s hdue]
    split
    · exact hcommitted
    · exact scenesLaw_of_scene hcommitted (by simp)
  · rw [commitStage_of_not_due advanced s hdue]
    exact h

theorem finishScene_scenesLaw (h : ScenesLaw s) : ScenesLaw (finishScene s) := by
  unfold finishScene
  split
  · exact h
  · exact commitStage_scenesLaw _ (teardownStage_scenesLaw h)
  · exact commitStage_scenesLaw _ h

theorem offerSome_scenesLaw (owed : List Byte) (h : ScenesLaw s) : ScenesLaw (offerSome owed s) :=
  scenesLaw_of_scene h (by simp)

theorem offerOwedNotices_scenesLaw (h : ScenesLaw s) : ScenesLaw (offerOwedNotices s) :=
  scenesLaw_of_scene h (by simp)

theorem blinkCompare_scenesLaw (h : ScenesLaw s) : ScenesLaw (blinkCompare s) := scenesLaw_of_scene h (by simp)

theorem settle_scenesLaw (h : ScenesLaw s) : ScenesLaw s.settle := by
  have hfirst : ScenesLaw (endsBeforeStore s) := endsBeforeStore_scenesLaw h
  unfold State.settle
  refine blinkCompare_scenesLaw ?_
  dsimp only
  split_ifs
  · exact offerOwedNotices_scenesLaw (finishScene_scenesLaw (offerSome_scenesLaw _ hfirst))
  · exact offerOwedNotices_scenesLaw (endExpired_scenesLaw (finishScene_scenesLaw hfirst))
  · exact finishScene_scenesLaw h

theorem ready_scenesLaw (h : ScenesLaw s) : ScenesLaw s.ready := settle_scenesLaw (s := s.quiet) h

theorem settleSome_scenesLaw (h : ScenesLaw s) : ScenesLaw (settleSome s) := by
  have hfirst : ScenesLaw (endsBeforeStore s) := endsBeforeStore_scenesLaw h
  unfold settleSome
  dsimp only
  split_ifs
  · exact h
  · exact offerSome_scenesLaw _ (finishScene_scenesLaw (offerSome_scenesLaw _ hfirst))
  · exact offerSome_scenesLaw _ hfirst
  · exact offerSome_scenesLaw _ (endExpired_scenesLaw (finishScene_scenesLaw hfirst))

theorem sessionExpiry_scenesLaw (h : ScenesLaw s) : ScenesLaw (sessionExpiry s) := by
  unfold sessionExpiry
  split
  · exact h
  · next e rest _ =>
    have hended : ScenesLaw (expireEntry e (match s.scene.stage with
        | .commitDue _ => finishScene s
        | _ => s)) := by
      refine expireEntry_scenesLaw e ?_
      split
      · exact finishScene_scenesLaw h
      · exact h
    dsimp only
    split_ifs
    · exact offerOwedNotices_scenesLaw hended
    · exact offerSome_scenesLaw _ hended
    · exact hended

/-! ### The law of both scenes on the link side -/

/-- R118, R94: the frame start itself writes neither scene. -/
theorem compositedFrameStart_scenesLaw (g : Option Geometry) (h : ScenesLaw s) :
    ScenesLaw (compositedFrameStart g s) := h

theorem Untouched.scenesLaw (g : Untouched True s t) (h : ScenesLaw s) : ScenesLaw t :=
  scenesLaw_of_scene h (g.scene trivial)

theorem lockedStep_scenesLaw {clean : Bool} {sym : Symbol} (h : ScenesLaw s) : ScenesLaw (lockedStep clean sym s) := by
  by_cases hsym : sym = .fs
  · subst hsym
    cases clean <;> exact h
  · exact (lockedStep_untouched fun _ => hsym).scenesLaw h

theorem lockedSymbol_scenesLaw {sym : Symbol} (h : ScenesLaw s) : ScenesLaw (lockedSymbol sym s) := by
  have hchecked (fault : Bool) : ScenesLaw (if fault then framingError s else s) := by
    split_ifs
    · exact framingError_untouched.scenesLaw h
    · exact h
  unfold lockedSymbol
  dsimp only
  split
  · exact lockedStep_scenesLaw (hchecked _)
  · by_cases hsym : sym = .fs
    · rw [if_pos hsym]
      exact acquireSymbol_untouched.scenesLaw (hchecked _)
    · rw [if_neg hsym]
      exact hchecked _

theorem receiveSymbol_scenesLaw {sym : Symbol} (h : ScenesLaw s) : ScenesLaw (receiveSymbol sym s) := by
  by_cases hlock : s.rx.lock = .locked
  · have hreceive : receiveSymbol sym s = lockedSymbol sym { s with rx := { s.rx with gapPackets := 0 } } := by
      simp [receiveSymbol, hlock]
    rw [hreceive]
    exact lockedSymbol_scenesLaw h
  · exact (receiveSymbol_untouched fun _ _ => hlock).scenesLaw h

theorem orderedClose_scenesLaw {act : State → State} (hact : ∀ u, ScenesLaw u → ScenesLaw (act u))
    (h : ScenesLaw s) : ScenesLaw (orderedClose act s) := by
  have hclosed : ScenesLaw (act (closeGap s)) := hact _ (closeGap_untouched.scenesLaw h)
  unfold orderedClose
  dsimp only
  split
  · split_ifs
    · exact closeGap_untouched.scenesLaw (settleSome_scenesLaw (hact s.draw.2 h))
    · exact hact _ (closeGap_untouched.scenesLaw (s := s.draw.2) h)
    · exact hclosed
  · exact hact s h

theorem inputSymbol_scenesLaw {sym : Symbol} (h : ScenesLaw s) : ScenesLaw (inputSymbol sym s) := by
  have hready : ScenesLaw s.ready := ready_scenesLaw h
  unfold inputSymbol
  dsimp only
  split
  · exact hready
  · exact receiveSymbol_scenesLaw hready
  · split_ifs
    · exact putSymbol_untouched.scenesLaw (receiveSymbol_scenesLaw (sym := sym) hready)
    · exact receiveSymbol_scenesLaw hready
  · exact passSymbol_untouched.scenesLaw (orderedClose_scenesLaw (fun _ => receiveSymbol_scenesLaw) hready)

theorem beginGeneratedFrame_scenesLaw (g : Geometry) (h : ScenesLaw s) : ScenesLaw (beginGeneratedFrame g s) :=
  putSymbol_untouched.scenesLaw
    (orderedClose_scenesLaw (fun _ hu => compositedFrameStart_scenesLaw _ hu)
      (s := setGenerator g (.line 0) s.settings.period s) h)

/-! ### The law of both scenes at the arrival of a packet (R145 to R153) -/

theorem refuseOpen_scene (source : Byte) (s : State) : (refuseOpen source s).scene = s.scene := by
  unfold refuseOpen
  dsimp only
  split_ifs
  · split <;> rfl
  · rfl

theorem openEntry_scene (source : Byte) (role : Role) (limit : Nat) (s : State) :
    (openEntry source role limit s).scene = s.scene := by
  unfold openEntry
  split_ifs
  · rfl
  · rfl
  · split <;> rfl

theorem admitSequenced_scene (e : Fin 4) (seq : Byte) (payload : List Byte) (s : State) :
    (admitSequenced e seq payload s).scene = s.scene := by
  unfold admitSequenced admitNext admitDuplicate answerOutOfSequence
  dsimp only
  repeat' split
  all_goals rfl

/-- R148: a reopen ends the session that the peer holds. -/
theorem openSession_scenesLaw (source : Byte) (role : Role) (limit : Nat) (h : ScenesLaw s) :
    ScenesLaw (openSession source role limit s) := by
  unfold openSession
  dsimp only
  split_ifs
  · refine scenesLaw_of_scene ?_ (openEntry_scene ..)
    split
    · exact endSession_scenesLaw _ h
    · exact h
  · exact h

theorem admitUnicast_scenesLaw (source seq : Byte) (payload : List Byte) (h : ScenesLaw s) :
    ScenesLaw (admitUnicast source seq payload s) := by
  unfold admitUnicast
  repeat' split
  · exact openSession_scenesLaw _ _ _ h
  · exact scenesLaw_of_scene h (refuseOpen_scene ..)
  · exact scenesLaw_of_scene h (admitSequenced_scene ..)
  · exact h
  · exact h
  · exact h

theorem forwardIfOutput_scene (run : List Byte) (s : State) : (forwardIfOutput run s).scene = s.scene := by
  unfold forwardIfOutput
  split_ifs <;> rfl

theorem admitBroadcast_scene (seq : Byte) (payload : List Byte) (s : State) :
    (admitBroadcast seq payload s).scene = s.scene := by
  unfold admitBroadcast
  split_ifs <;> rfl

theorem separate_scenesLaw (run : List Byte) (kind dest source seq : Byte) (payload : List Byte) (h : ScenesLaw s) :
    ScenesLaw (separate run kind dest source seq payload s) := by
  have hforwarded : ScenesLaw (forwardIfOutput run s) := scenesLaw_of_scene h (forwardIfOutput_scene ..)
  unfold separate
  split_ifs
  · exact admitUnicast_scenesLaw _ _ _ h
  · exact scenesLaw_of_scene hforwarded (admitBroadcast_scene ..)
  · exact hforwarded

theorem receivePacket_scenesLaw (run : List Byte) (h : ScenesLaw s) : ScenesLaw (receivePacket run s) := by
  have hcounted : ScenesLaw { s with rx := { s.rx with gapPackets := s.rx.gapPackets + 1 } } := h
  unfold receivePacket
  dsimp only
  split_ifs
  · exact discardOverfull_untouched.scenesLaw h
  · split
    · exact discardOverfull_untouched.scenesLaw hcounted
    · exact h
    · exact separate_scenesLaw _ _ _ _ _ _ hcounted

/-! ### The law of both scenes at the rows of the Command Engine -/

theorem takeHead_scene (s : State) : (takeHead s).scene = s.scene := by
  unfold takeHead
  repeat' split
  all_goals simp

theorem stepLong_scene (e : Fin 4) (x : Executing) (last : Bool) (c : LongCommand) (data : List Byte) (s : State) :
    (stepLong e x last c data s).scene = s.scene := by
  unfold stepLong
  split_ifs <;> simp

theorem cellStep_scene (s : State) : (cellStep s).scene = s.ready.scene := by
  unfold cellStep
  dsimp only
  repeat' split
  all_goals simp [stepLong_scene]

theorem glyphStep_scene (s : State) : (glyphStep s).scene = s.ready.scene := by
  unfold glyphStep
  dsimp only
  repeat' split
  all_goals simp

theorem withCommand_scenesLaw {code : Byte} {k : Fin 4 → Executing → Option (List Byte) → State → State}
    (h : ScenesLaw s) (hk : ∀ e x ops, ScenesLaw s.ready → ScenesLaw (k e x ops s.ready)) :
    ScenesLaw (withCommand code k s) := by
  have hready : ScenesLaw s.ready := ready_scenesLaw h
  rcases withCommand_cases code k s with hnone | ⟨e, x, -, -, -, -, hrun⟩
  · rw [hnone]
    exact hready
  · rw [hrun]
    exact hk e x _ hready

theorem runCommand_scenesLaw {code : Byte} {f : Fin 4 → Executing → List Byte → State → Verdict}
    (h : ScenesLaw s) (hf : ∀ {e x ops}, ScenesLaw s.ready → (f e x ops s.ready).lawful s.ready) :
    ScenesLaw (runCommand code f s) := by
  have hready : ScenesLaw s.ready := ready_scenesLaw h
  rcases runCommand_cases code f s with hnone | ⟨e, x, v, hrun, hv⟩
  · rw [hnone]
    exact hready
  · rw [hrun]
    refine conclude_scenesLaw ?_
    rcases hv with rfl | ⟨ops, rfl⟩
    · exact hready
    · exact hf hready

theorem closeSession_scenesLaw (e : Fin 4) (x : Executing) (ops : Option (List Byte)) (h : ScenesLaw s) :
    ScenesLaw (closeSession e x ops s) := by
  unfold closeSession
  split
  · exact endSession_scenesLaw e (scenesLaw_of_scene h (by simp))
  · exact h

theorem clearCounters_scenesLaw (e : Fin 4) (x : Executing) (ops : Option (List Byte)) (h : ScenesLaw s) :
    ScenesLaw (clearCounters e x ops s) := by
  unfold clearCounters
  split
  · split_ifs
    · exact conclude_scenesLaw (readStatus_lawful h)
    · exact h
  · exact h

theorem resetDevice_scenesLaw (e : Fin 4) (x : Executing) (ops : Option (List Byte)) (h : ScenesLaw s) :
    ScenesLaw (resetDevice e x ops s) := by
  unfold resetDevice
  split
  · split_ifs
    · exact ⟨scene_reset_sceneLaw, scene_reset_sceneLaw⟩
    · exact h
  · exact h

/-- R11: the SYNC COMMIT of a broadcast packet sets the commit record alone. -/
theorem syncCommit_scenesLaw (h : ScenesLaw s) : ScenesLaw (syncCommit s) := by
  have hready : ScenesLaw s.ready := ready_scenesLaw h
  unfold syncCommit
  dsimp only
  repeat' split
  all_goals exact scenesLaw_congr hready (by simp [refusePacket]) (by simp [refusePacket])

end ScenesLaw

/-! ### Every step -/

/-- Every row keeps the law of both scenes. -/
theorem exec_scenesLaw (c : Instr) (s t : State) (hexec : exec c s = .next t) (h : ScenesLaw s) : ScenesLaw t := by
  have hready : ScenesLaw s.ready := ready_scenesLaw h
  have hquiet : ScenesLaw s.quiet := h
  cases c <;> cases hexec
  case resetnAsserted => exact ⟨scene_reset_sceneLaw, scene_reset_sceneLaw⟩
  case resetnReleased | initialisationSweepEnd =>
    split_ifs <;> exact hready
  case frameStart | lineStart | pixel | lineEnd | frameEnd => exact inputSymbol_scenesLaw h
  case packetReceived run =>
    split
    · exact hready
    · exact receivePacket_scenesLaw run hready
  case watchdogExpiry =>
    split_ifs
    · exact expireWatchdog_untouched.scenesLaw hready
    · exact hready
  case generatedFrameStart =>
    split
    · exact beginGeneratedFrame_scenesLaw _ hready
    · split
      · exact beginGeneratedFrame_scenesLaw _ hready
      · exact hready
    · exact hready
  case generatedSymbol =>
    split
    · exact generateSymbol_untouched.scenesLaw hready
    · exact hready
  case relockSwitch =>
    split
    · exact enterLocked_untouched.scenesLaw (closeGap_untouched.scenesLaw hready)
    · exact hready
  case applyTeardown =>
    split_ifs
    · exact teardownStage_scenesLaw hquiet
    · exact hquiet
  case applyCommit => exact finishScene_scenesLaw hquiet
  case blinkToggle => exact blinkCompare_scenesLaw (finishScene_scenesLaw hquiet)
  case sessionExpiry => exact sessionExpiry_scenesLaw hquiet
  case takeHeadPacket =>
    have htaken : ScenesLaw (takeHead s.ready) := scenesLaw_of_scene hready (takeHead_scene _)
    split
    · exact hready
    all_goals exact htaken
  case cellStep => exact scenesLaw_of_scene hready (cellStep_scene s)
  case glyphStep => exact scenesLaw_of_scene hready (glyphStep_scene s)
  case closeSession => exact withCommand_scenesLaw h closeSession_scenesLaw
  case clearCounters => exact withCommand_scenesLaw h clearCounters_scenesLaw
  case resetDevice => exact withCommand_scenesLaw h resetDevice_scenesLaw
  case syncCommit => exact syncCommit_scenesLaw h
  all_goals exact runCommand_scenesLaw h fun hready => by simp [hready]

/-- Settles O58. -/
theorem stepsKeepTheScenesInRange : Obligations.StepsKeepTheScenesInRange := by
  intro s t hstep h
  have hlaw : ScenesLaw s := h
  unfold step at hstep
  split at hstep
  · cases hstep
    exact hlaw
  · next c rest _ => exact exec_scenesLaw c { s with pending := rest } t hstep hlaw

end Sys2Proof.Machine

namespace Sys2Proof.Machine

/-! ### A command row where its command stands (R163) -/

/-- A row that runs a command ends as the command's verdict says, with LINK OUT released. -/
theorem exec_of_verdict {i : Instr} {code : Byte} {f : Fin 4 → Executing → List Byte → State → Verdict} {s : State}
    {e : Fin 4} {x : Executing} {ops : List Byte} {v : Verdict} (hat : s.standsAt code e x ops)
    (hrow : exec i s = .next (runCommand code f s)) (hv : f e x ops s.quiet = v) :
    exec i s = .next (conclude e x s.quiet v) := by
  rw [hrow, runCommand_of_standsAt code f s e x ops hat, hv]

theorem read_of_no_room (x : Executing) (s : State) (data : List Byte) (h : ¬ x.hasRoom data.length) :
    Verdict.read x s data = .refuse .tooLarge := if_neg h

/-! ### CLAIM WINDOW (R30) -/

theorem allSlots_eq : allSlots = List.finRange 8 := by decide

theorem lowestUnclaimed_eq_none {sc : Scene} (h : ∀ k : Fin 8, sc.windows[k] ≠ none) : sc.lowestUnclaimed = none :=
  List.find?_eq_none.2 fun k _ => by simpa using h k

theorem lowestUnclaimed_eq_some {sc : Scene} {k : Fin 8} (hk : sc.windows[k] = none)
    (hlow : ∀ a : Fin 8, a < k → sc.windows[a] ≠ none) : sc.lowestUnclaimed = some k := by
  unfold Scene.lowestUnclaimed
  rw [allSlots_eq, List.find?_eq_some_iff_getElem]
  refine ⟨by simp [hk], k.1, by simp, by simp, fun a ha => ?_⟩
  simpa [Option.isSome_iff_ne_none] using hlow ⟨a, ha.trans k.2⟩ ha

/-- With every slot claimed the claim is refused. -/
theorem claimWindow_of_full (e : Fin 4) (x : Executing) {s : State} (hopen : s.scene.commit.pending = false)
    (h : s.scene.staged.lowestUnclaimed = none) : claimWindow e x [] s = .refuse .noSlot := by
  simp [claimWindow, noOperands, unsealed_of_open s _ hopen, h]

/-- The claim takes the lowest unclaimed slot, if there is room for its number. -/
theorem claimWindow_of_slot (e : Fin 4) (x : Executing) {s : State} {k : Fin 8}
    (hopen : s.scene.commit.pending = false) (h : s.scene.staged.lowestUnclaimed = some k) :
    claimWindow e x [] s = Verdict.read x (s.setWindowRecord k (claimedRecord e)) [byte k.1] := by
  simp [claimWindow, noOperands, unsealed_of_open s _ hopen, h]

/-- Settles O45. -/
theorem claimTakesTheLowestUnclaimedSlot : Obligations.ClaimTakesTheLowestUnclaimedSlot := by
  intro s e x hat hopen
  refine ⟨fun hfull => ?noSlot, fun k hk hlow => ?slot⟩
  case noSlot =>
    exact exec_of_verdict hat rfl (claimWindow_of_full e x (s := s.quiet) hopen (lowestUnclaimed_eq_none hfull))
  case slot =>
    have hclaim := claimWindow_of_slot e x (s := s.quiet) hopen (lowestUnclaimed_eq_some hk hlow)
    exact ⟨fun hroom => exec_of_verdict hat rfl (hclaim.trans (read_of_no_room x _ _ hroom)),
      fun hroom => exec_of_verdict hat rfl (hclaim.trans (read_of_room x _ _ hroom))⟩

end Sys2Proof.Machine

namespace Sys2Proof.Machine

/-! ### Operand bytes in their ranges (R174) -/

theorem slotOf_of_toNat {b : Byte} {slot : Fin 8} (h : b.toNat = slot.1) : slotOf b = some slot := by
  simp [slotOf, h]

theorem paletteOf_of_toNat {b : Byte} {p : Fin 4} (h : b.toNat = p.1) : paletteOf b = some p := by
  simp [paletteOf, h]

theorem cellIndexOf_of_isCellIndex {hi lo : Byte} (h : isCellIndex hi lo = true) :
    cellIndexOf hi lo = some (be16 hi lo) := by
  have hlt : be16 hi lo < 16384 := of_decide_eq_true h
  exact if_pos (by omega)

/-- A byte below 2 is 0 or 1. -/
theorem byte_lt_two {b : Byte} (h : b.toNat < 2) : b = 0 ∨ b = 1 := by bv_omega

theorem byte_lt_four {b : Byte} (h : b.toNat < 4) : b = 0 ∨ b = 1 ∨ b = 2 ∨ b = 3 := by bv_omega

theorem yesNo_of_lt {b : Byte} (h : b.toNat < 2) : yesNo b = some (decide (b = 1)) := by
  rcases byte_lt_two h with rfl | rfl <;> rfl

theorem sceneSelector_of_lt {b : Byte} (h : b.toNat < 2) : sceneSelector b = some (decide (b = 1)) := by
  rcases byte_lt_two h with rfl | rfl <;> rfl

theorem keySenseOf_of_lt {b : Byte} (h : b.toNat < 2) :
    keySenseOf b = some (if b = 0 then .isMatch else .noMatch) := by
  rcases byte_lt_two h with rfl | rfl <;> rfl

theorem partOf_of_lt {b : Byte} (h : b.toNat < 4) : ∃ p, partOf b = some p := by
  rcases byte_lt_four h with rfl | rfl | rfl | rfl <;> exact ⟨_, rfl⟩

/-- The fields that a record group in its ranges lays over `old` (R32). -/
def WindowRecord.regrouped (old : WindowRecord)
    (xh xl yh yl cols rows cw ch pitch bh bl fine ba bb pal opts ul : Byte) : WindowRecord :=
  { old with
    x := be16 xh xl, y := be16 yh yl, columns := cols.toNat, rows := rows.toNat, cellWidth := cw.toNat,
    cellHeight := ch.toNat, pitch := pitch.toNat, base := be16 bh bl, fine := fine.toNat, bankA := ba.toNat,
    bankB := bb.toNat, palette := Fin.ofNat 4 pal.toNat, dualBank := opts.getLsbD 0, blinkEnable := opts.getLsbD 1,
    underlineLine := ul.toNat }

theorem recordGroupOf_of_inRange (old : WindowRecord)
    {xh xl yh yl cols rows cw ch pitch bh bl fine ba bb pal opts ul : Byte}
    (h : recordGroupInRange [xh, xl, yh, yl, cols, rows, cw, ch, pitch, bh, bl, fine, ba, bb, pal, opts, ul] = true) :
    recordGroupOf old [xh, xl, yh, yl, cols, rows, cw, ch, pitch, bh, bl, fine, ba, bb, pal, opts, ul]
      = some (old.regrouped xh xl yh yl cols rows cw ch pitch bh bl fine ba bb pal opts ul) := by
  simp only [recordGroupInRange, isCellIndex, Bool.and_eq_true, decide_eq_true_eq] at h
  have hpal : paletteOf pal = some (Fin.ofNat 4 pal.toNat) := by
    refine paletteOf_of_toNat ?_
    rw [Fin.val_ofNat, Nat.mod_eq_of_lt (by omega)]
  simp only [recordGroupOf, hpal]
  rw [if_pos (by omega)]
  rfl

/-- A record group in its ranges has its 17 bytes. -/
theorem recordGroup_shape {group : List Byte} (h : recordGroupInRange group = true) :
    ∃ xh xl yh yl cols rows cw ch pitch bh bl fine ba bb pal opts ul,
      group = [xh, xl, yh, yl, cols, rows, cw, ch, pitch, bh, bl, fine, ba, bb, pal, opts, ul] := by
  unfold recordGroupInRange at h
  split at h
  · exact ⟨_, _, _, _, _, _, _, _, _, _, _, _, _, _, _, _, _, rfl⟩
  · cases h

/-! ### The window commands on operands that pass check 2 (R31 to R41) -/

section SlotCommands

variable {s : State} {e : Fin 4} {x : Executing} {slot : Fin 8} {b : Byte} {ops : List Byte}

theorem releaseWindow_of_slot (hb : b.toNat = slot.1) : releaseWindow e x [b] s =
    withWindow e slot s fun _ => .done (s.setStaged (s.scene.staged.release slot)) [] := by
  simp [releaseWindow, slotOf_of_toNat hb]

theorem hideWindow_of_slot (hb : b.toNat = slot.1) : hideWindow e x [b] s = withWindow e slot s fun _ =>
    .done (s.setStaged { s.scene.staged with order := s.scene.staged.order.filter (· ≠ slot) }) [] := by
  simp [hideWindow, slotOf_of_toNat hb]

theorem showWindow_of_placement {placement reference : Byte} {p : Placement} (hb : b.toNat = slot.1)
    (hp : placementOf slot placement reference = some p) : showWindow e x [b, placement, reference] s =
      withWindow e slot s fun _ =>
        if referenceShown p s.scene.staged.order then
          .done (s.setStaged { s.scene.staged with order := place slot p s.scene.staged.order }) []
        else .refuse .notShown := by
  simp [showWindow, slotOf_of_toNat hb, hp]

/-- R32: the record check is on the new fields under the old parts. -/
theorem setWindow_of_inRange {xh xl yh yl cols rows cw ch pitch bh bl fine ba bb pal opts ul : Byte}
    (hb : b.toNat = slot.1)
    (h : recordGroupInRange [xh, xl, yh, yl, cols, rows, cw, ch, pitch, bh, bl, fine, ba, bb, pal, opts, ul] = true) :
    setWindow e x [b, xh, xl, yh, yl, cols, rows, cw, ch, pitch, bh, bl, fine, ba, bb, pal, opts, ul] s =
      editWindow e slot s fun r =>
        if partsFit (r.regrouped xh xl yh yl cols rows cw ch pitch bh bl fine ba bb pal opts ul) then
          some (r.regrouped xh xl yh yl cols rows cw ch pitch bh bl fine ba bb pal opts ul)
        else none := by
  simp only [setWindow, slotOf_of_toNat hb, recordGroupOf_of_inRange _ h]

theorem moveWindow_of_inRange {xh xl yh yl : Byte} (hb : b.toNat = slot.1)
    (h : windowOperandsInRange .moveWindow [b, xh, xl, yh, yl] = true) :
    moveWindow e x [b, xh, xl, yh, yl] s =
      editWindow e slot s fun r => some { r with x := be16 xh xl, y := be16 yh yl } := by
  simp only [windowOperandsInRange, Bool.and_eq_true, decide_eq_true_eq] at h
  simp only [moveWindow, slotOf_of_toNat hb]
  exact if_pos (by omega)

theorem setScroll_of_inRange {bh bl fine : Byte} (hb : b.toNat = slot.1)
    (h : windowOperandsInRange .setScroll [b, bh, bl, fine] = true) :
    setScroll e x [b, bh, bl, fine] s = editWindow e slot s fun r =>
      if fine.toNat < r.cellHeight then some { r with base := be16 bh bl, fine := fine.toNat } else none := by
  simp only [windowOperandsInRange, Bool.and_eq_true, decide_eq_true_eq] at h
  obtain ⟨-, hbase, hfine⟩ := h
  simp only [setScroll, slotOf_of_toNat hb, cellIndexOf_of_isCellIndex hbase]
  exact if_pos (by omega)

theorem setCursor_of_inRange {ch cl start stop blink : Byte} (hb : b.toNat = slot.1)
    (h : windowOperandsInRange .setCursor [b, ch, cl, start, stop, blink] = true) :
    setCursor e x [b, ch, cl, start, stop, blink] s = editWindow e slot s fun r =>
      some { r with cursor := some ⟨be16 ch cl, start.toNat, stop.toNat, decide (blink = 1)⟩ } := by
  simp only [windowOperandsInRange, Bool.and_eq_true, decide_eq_true_eq] at h
  obtain ⟨-, ⟨⟨hcell, hstart⟩, hstop⟩, hblink⟩ := h
  have hlines : start.toNat ≤ 31 ∧ stop.toNat ≤ 31 := by omega
  simp [setCursor, slotOf_of_toNat hb, cursorOf, cellIndexOf_of_isCellIndex hcell, yesNo_of_lt hblink, hlines]

theorem setBorder_of_inRange {width colour : Byte} (hb : b.toNat = slot.1)
    (h : windowOperandsInRange .setBorder [b, width, colour] = true) :
    setBorder e x [b, width, colour] s = editWindow e slot s fun r =>
      if footprintHeight { r with border := some ⟨width.toNat, colour⟩ } ≤ 2304 then
        some { r with border := some ⟨width.toNat, colour⟩ }
      else none := by
  simp only [windowOperandsInRange, Bool.and_eq_true, decide_eq_true_eq] at h
  have hwidth : 1 ≤ width.toNat ∧ width.toNat ≤ 8 := by omega
  simp only [setBorder, slotOf_of_toNat hb, borderOf, if_pos hwidth]

theorem setKey_of_inRange {kr kg kb mr mg mb sense : Byte} (hb : b.toNat = slot.1)
    (h : windowOperandsInRange .setKey [b, kr, kg, kb, mr, mg, mb, sense] = true) :
    setKey e x [b, kr, kg, kb, mr, mg, mb, sense] s = editWindow e slot s fun r =>
      some { r with key := some ⟨⟨kr, kg, kb⟩, ⟨mr, mg, mb⟩, if sense = 0 then .isMatch else .noMatch⟩ } := by
  simp only [windowOperandsInRange, Bool.and_eq_true, decide_eq_true_eq] at h
  simp only [setKey, slotOf_of_toNat hb, keyOf, keySenseOf_of_lt h.2]

theorem setSplit_of_inRange {row bh bl : Byte} (hb : b.toNat = slot.1)
    (h : windowOperandsInRange .setSplit [b, row, bh, bl] = true) :
    setSplit e x [b, row, bh, bl] s = editWindow e slot s fun r =>
      if row.toNat ≤ r.rows - 1 then some { r with split := some ⟨row.toNat, be16 bh bl⟩ } else none := by
  simp only [windowOperandsInRange, Bool.and_eq_true, decide_eq_true_eq] at h
  obtain ⟨-, hrow, hbase⟩ := h
  have hrange : 1 ≤ row.toNat ∧ row.toNat ≤ 119 := by omega
  simp only [setSplit, slotOf_of_toNat hb, splitOf, cellIndexOf_of_isCellIndex hbase, if_pos hrange]

theorem clearPart_of_part {part : Byte} {p : PartName} (hb : b.toNat = slot.1) (hp : partOf part = some p) :
    clearPart e x [b, part] s = editWindow e slot s fun r => some (r.without p) := by
  simp only [clearPart, slotOf_of_toNat hb, hp]

/-- Check 2 of SHOW WINDOW admits the placements of R40. -/
theorem placementOf_of_inRange {placement reference : Byte} (hb : b.toNat = slot.1)
    (h : windowOperandsInRange .showWindow [b, placement, reference] = true) :
    ∃ p, placementOf slot placement reference = some p := by
  simp only [windowOperandsInRange, Bool.and_eq_true, Bool.or_eq_true, decide_eq_true_eq] at h
  obtain ⟨-, hlow | ⟨⟨hplacement, href⟩, hne⟩⟩ := h
  · rcases byte_lt_two hlow with rfl | rfl
    · exact ⟨_, rfl⟩
    · exact ⟨_, rfl⟩
  · have hother : (⟨reference.toNat, href⟩ : Fin 8) ≠ slot := fun heq =>
      hne (BitVec.eq_of_toNat_eq (by rw [hb, ← heq]))
    rcases byte_lt_four hplacement with rfl | rfl | rfl | rfl <;> simp [placementOf, slotOf, href, hother]

/-- R27, Table 11: after check 2 a command that names a slot goes on to checks 4, 5 and 6 of that slot. -/
theorem exec_slotCommand {i : Instr} {code : Byte} {tail : List Byte} (hmem : (i, code) ∈ slotCommands)
    (hat : s.standsAt code e x (b :: tail)) (hin : windowOperandsInRange i (b :: tail) = true) (hb : b.toNat = slot.1) :
    ∃ k, exec i s = .next (conclude e x s.quiet (withWindow e slot s.quiet k)) := by
  have hshape := hin
  simp only [windowOperandsInRange, Bool.and_eq_true] at hshape
  obtain ⟨-, hshape⟩ := hshape
  split at hshape
  · obtain rfl : code = 0x11 := by simpa [slotCommands] using hmem
    exact ⟨_, exec_of_verdict hat rfl (releaseWindow_of_slot hb)⟩
  · obtain rfl : code = 0x1B := by simpa [slotCommands] using hmem
    exact ⟨_, exec_of_verdict hat rfl (hideWindow_of_slot hb)⟩
  · obtain rfl : code = 0x12 := by simpa [slotCommands] using hmem
    obtain ⟨xh, xl, yh, yl, cols, rows, cw, ch, pitch, bh, bl, fine, ba, bb, pal, opts, ul, rfl⟩ :=
      recordGroup_shape hshape
    exact ⟨_, exec_of_verdict hat rfl (setWindow_of_inRange hb hshape)⟩
  · obtain rfl : code = 0x13 := by simpa [slotCommands] using hmem
    exact ⟨_, exec_of_verdict hat rfl (moveWindow_of_inRange hb hin)⟩
  · obtain rfl : code = 0x14 := by simpa [slotCommands] using hmem
    exact ⟨_, exec_of_verdict hat rfl (setScroll_of_inRange hb hin)⟩
  · obtain rfl : code = 0x15 := by simpa [slotCommands] using hmem
    exact ⟨_, exec_of_verdict hat rfl (setCursor_of_inRange hb hin)⟩
  · obtain rfl : code = 0x16 := by simpa [slotCommands] using hmem
    exact ⟨_, exec_of_verdict hat rfl (setBorder_of_inRange hb hin)⟩
  · obtain rfl : code = 0x17 := by simpa [slotCommands] using hmem
    exact ⟨_, exec_of_verdict hat rfl (setKey_of_inRange hb hin)⟩
  · obtain rfl : code = 0x18 := by simpa [slotCommands] using hmem
    exact ⟨_, exec_of_verdict hat rfl (setSplit_of_inRange hb hin)⟩
  · obtain rfl : code = 0x19 := by simpa [slotCommands] using hmem
    obtain ⟨p, hp⟩ := partOf_of_lt (of_decide_eq_true hshape)
    exact ⟨_, exec_of_verdict hat rfl (clearPart_of_part hb hp)⟩
  · obtain rfl : code = 0x1A := by simpa [slotCommands] using hmem
    obtain ⟨p, hp⟩ := placementOf_of_inRange hb hin
    exact ⟨_, exec_of_verdict hat rfl (showWindow_of_placement hb hp)⟩
  · cases hshape

end SlotCommands

/-! ### Checks 4, 5 and 6 (R27, R7) -/

theorem withWindow_of_unclaimed {e : Fin 4} {slot : Fin 8} {s : State} (k : WindowRecord → Verdict)
    (h : s.scene.staged.windows[slot] = none) : withWindow e slot s k = .refuse .noWindow := by
  simp [withWindow, h]

theorem withWindow_of_notOwner {e : Fin 4} {slot : Fin 8} {s : State} {r : WindowRecord} (k : WindowRecord → Verdict)
    (h : s.scene.staged.windows[slot] = some r) (hrole : (s.session e).role = .client) (howner : r.owner ≠ e) :
    withWindow e slot s k = .refuse .notOwner := by
  simp [withWindow, h, hrole, howner]

theorem withWindow_of_sealed {e : Fin 4} {slot : Fin 8} {s : State} {r : WindowRecord} (k : WindowRecord → Verdict)
    (h : s.scene.staged.windows[slot] = some r) (hmay : (s.session e).role = .control ∨ r.owner = e)
    (hsealed : s.scene.commit.pending = true) : withWindow e slot s k = .refuse .stageSealed := by
  have hown : ¬ ((s.session e).role = .client ∧ r.owner ≠ e) := by
    rintro ⟨hrole, hne⟩
    exact hmay.elim (fun hcontrol => by simp [hrole] at hcontrol) hne
  simp [withWindow, h, if_neg hown, unsealed, hsealed]

/-- Settles O46. -/
theorem windowChecksComeInOrder : Obligations.WindowChecksComeInOrder := by
  intro i code b tail s e x slot hmem hat hin hb
  obtain ⟨k, hexec⟩ := exec_slotCommand hmem hat hin hb
  rw [hexec]
  refine ⟨fun hnone => ?unclaimed, fun r hr => ⟨fun hrole howner => ?notOwner, fun hmay hsealed => ?sealed⟩⟩
  case unclaimed =>
    rw [withWindow_of_unclaimed (s := s.quiet) k hnone]
    rfl
  case notOwner =>
    rw [withWindow_of_notOwner (s := s.quiet) k hr hrole howner]
    rfl
  case sealed =>
    rw [withWindow_of_sealed (s := s.quiet) k hr hmay hsealed]
    rfl

end Sys2Proof.Machine

namespace Sys2Proof.Machine

/-! ### Commands on a slot that checks 4, 5 and 6 let through (R24, R28) -/

section MayEdit

variable {i : Instr} {code : Byte} {f : Fin 4 → Executing → List Byte → State → Verdict} {s : State} {e : Fin 4}
  {x : Executing} {ops : List Byte} {slot : Fin 8} {r : WindowRecord}

/-- A command on the slot goes on with its record. -/
theorem exec_of_mayEdit {k : WindowRecord → Verdict} (hat : s.standsAt code e x ops)
    (hrow : exec i s = .next (runCommand code f s)) (hv : f e x ops s.quiet = withWindow e slot s.quiet k)
    (hmay : s.mayEdit e slot r) : exec i s = .next (conclude e x s.quiet (k r)) :=
  exec_of_verdict hat hrow (hv.trans (withWindow_of_mayEdit e slot s.quiet r k hmay))

/-- A command that rewrites one record writes the rewritten record and nothing else. -/
theorem exec_edit_writes {edit : WindowRecord → Option WindowRecord} {r' : WindowRecord}
    (hat : s.standsAt code e x ops) (hrow : exec i s = .next (runCommand code f s))
    (hv : f e x ops s.quiet = editWindow e slot s.quiet edit) (hmay : s.mayEdit e slot r) (hedit : edit r = some r') :
    exec i s = .next (carryOn e (x.after []) (s.quiet.setWindowRecord slot r')) := by
  rw [exec_of_mayEdit hat hrow hv hmay]
  simp only [hedit]
  rfl

/-- A record that fails the record check is refused BAD_OPERAND. -/
theorem exec_edit_refuses {edit : WindowRecord → Option WindowRecord}
    (hat : s.standsAt code e x ops) (hrow : exec i s = .next (runCommand code f s))
    (hv : f e x ops s.quiet = editWindow e slot s.quiet edit) (hmay : s.mayEdit e slot r) (hedit : edit r = none) :
    exec i s = .next (refusePacket .badOperand e x s.quiet) := by
  rw [exec_of_mayEdit hat hrow hv hmay]
  simp only [hedit]
  rfl

end MayEdit

/-! ### RELEASE, SHOW and HIDE WINDOW (R31, R40, R41) -/

theorem insertAbove_append {slot reference : Fin 8} {front : List (Fin 8)} (behind : List (Fin 8))
    (h : reference ∉ front) :
    insertAbove slot reference (front ++ reference :: behind) = front ++ slot :: reference :: behind := by
  induction front with
  | nil => simp [insertAbove]
  | cons k rest ih =>
    obtain ⟨hk, hrest⟩ := not_or.1 (List.mem_cons.not.1 h)
    simp [insertAbove, Ne.symm hk, ih hrest]

theorem insertBelow_append {slot reference : Fin 8} {front : List (Fin 8)} (behind : List (Fin 8))
    (h : reference ∉ front) :
    insertBelow slot reference (front ++ reference :: behind) = front ++ reference :: slot :: behind := by
  induction front with
  | nil => simp [insertBelow]
  | cons k rest ih =>
    obtain ⟨hk, hrest⟩ := not_or.1 (List.mem_cons.not.1 h)
    simp [insertBelow, Ne.symm hk, ih hrest]

section Show

variable {s : State} {e : Fin 4} {x : Executing} {slot : Fin 8} {r : WindowRecord} {b placement ref : Byte}
  {p : Placement}

/-- R40: a show whose reference stands in the Order, if it has one, places the slot. -/
theorem exec_showWindow_places (hat : s.standsAt 0x1A e x [b, placement, ref]) (hb : b.toNat = slot.1)
    (hp : placementOf slot placement ref = some p) (hmay : s.mayEdit e slot r)
    (hshown : referenceShown p s.scene.staged.order = true) :
    exec .showWindow s = .next (carryOn e (x.after [])
      (s.quiet.setStaged { s.scene.staged with order := place slot p s.scene.staged.order })) := by
  rw [exec_of_mayEdit hat rfl (showWindow_of_placement hb hp) hmay, quiet_scene, if_pos hshown]
  rfl

/-- R40: a show next to a slot that is not in the Order is refused. -/
theorem exec_showWindow_refused (hat : s.standsAt 0x1A e x [b, placement, ref]) (hb : b.toNat = slot.1)
    (hp : placementOf slot placement ref = some p) (hmay : s.mayEdit e slot r)
    (hshown : referenceShown p s.scene.staged.order = false) :
    exec .showWindow s = .next (refusePacket .notShown e x s.quiet) := by
  rw [exec_of_mayEdit hat rfl (showWindow_of_placement hb hp) hmay, quiet_scene, if_neg (by simp [hshown])]
  rfl

end Show

theorem placementOf_above {slot reference : Fin 8} {ref : Byte} (href : ref.toNat = reference.1)
    (hne : reference ≠ slot) : placementOf slot 2 ref = some (.above reference) := by
  simp [placementOf, slotOf_of_toNat href, hne]

theorem placementOf_below {slot reference : Fin 8} {ref : Byte} (href : ref.toNat = reference.1)
    (hne : reference ≠ slot) : placementOf slot 3 ref = some (.below reference) := by
  simp [placementOf, slotOf_of_toNat href, hne]

/-- Settles O47. -/
theorem stagedOrderFollowsItsCommands : Obligations.StagedOrderFollowsItsCommands := by
  intro s e x b slot r hb hmay others ordered
  refine ⟨fun hat => ?release, fun hat => ?hide, fun ref hat => ?front, fun ref hat => ?back,
    fun placement ref reference hat href hne hnext =>
      ⟨fun hout => ?notShown, fun front behind hsplit hfirst => ?next⟩⟩
  case release => exact exec_of_mayEdit hat rfl (releaseWindow_of_slot hb) hmay
  case hide => exact exec_of_mayEdit hat rfl (hideWindow_of_slot hb) hmay
  case front => exact exec_showWindow_places hat hb rfl hmay rfl
  case back => exact exec_showWindow_places hat hb rfl hmay rfl
  case notShown =>
    have hshown : s.scene.staged.order.contains reference = false := by simpa using hout
    rcases hnext with rfl | rfl
    · exact exec_showWindow_refused hat hb (placementOf_above href hne) hmay hshown
    · exact exec_showWindow_refused hat hb (placementOf_below href hne) hmay hshown
  case next =>
    have hmem : reference ∈ others := by simp [hsplit]
    have hshown : s.scene.staged.order.contains reference = true := by
      simpa using List.mem_of_mem_filter hmem
    constructor
    · rintro rfl
      rw [exec_showWindow_places hat hb (placementOf_above href hne) hmay hshown, ← insertAbove_append behind hfirst,
        ← hsplit]
      rfl
    · rintro rfl
      rw [exec_showWindow_places hat hb (placementOf_below href hne) hmay hshown, ← insertBelow_append behind hfirst,
        ← hsplit]
      rfl

/-! ### The record commands (R32 to R39) -/

/-- R32: the parts fit the new fields exactly where the borders keep the footprint's height and the split its rows. -/
theorem partsFit_regrouped {r : WindowRecord} {xh xl yh yl cols rows cw ch pitch bh bl fine ba bb pal opts ul : Byte}
    (h : recordGroupInRange [xh, xl, yh, yl, cols, rows, cw, ch, pitch, bh, bl, fine, ba, bb, pal, opts, ul] = true) :
    partsFit (r.regrouped xh xl yh yl cols rows cw ch pitch bh bl fine ba bb pal opts ul) = true
      ↔ (∀ p, r.border = some p → rows.toNat * ch.toNat + 2 * p.width ≤ 2304)
        ∧ ∀ p, r.split = some p → p.row ≤ rows.toNat - 1 := by
  simp only [recordGroupInRange, Bool.and_eq_true, decide_eq_true_eq] at h
  obtain ⟨-, hheight⟩ := h
  rw [partsFit_iff]
  refine and_congr ?_ Iff.rfl
  cases hborder : r.border with
  | none => simp [footprintHeight, WindowRecord.regrouped, hborder, Nat.le_of_lt_succ hheight]
  | some p => simp [footprintHeight, WindowRecord.regrouped, hborder]

/-- Settles O48. -/
theorem recordCommandsWriteTheirFields : Obligations.RecordCommandsWriteTheirFields := by
  refine ⟨?setWindow, ?others⟩
  case setWindow =>
    intro s e x slot r b xh xl yh yl cols rows cw ch pitch bh bl fine ba bb pal opts ul hat hin hb hmay fits
    have hset := setWindow_of_inRange (e := e) (x := x) (s := s.quiet) hb hin
    have hfit : partsFit (r.regrouped xh xl yh yl cols rows cw ch pitch bh bl fine ba bb pal opts ul) = true ↔ fits :=
      partsFit_regrouped hin
    exact ⟨fun h => exec_edit_writes hat rfl hset hmay (if_pos (hfit.2 h)),
      fun h => exec_edit_refuses hat rfl hset hmay (if_neg fun hp => h (hfit.1 hp))⟩
  case others =>
    intro s e x b slot r hb hmay writes refuses stands
    refine ⟨?move, ?scroll, ?cursor, ?border, ?key, ?split, ?noCursor, ?noBorder, ?noKey, ?noSplit⟩
    case move =>
      rintro xh xl yh yl ⟨hat, hin⟩
      exact exec_edit_writes hat rfl (moveWindow_of_inRange hb hin) hmay rfl
    case scroll =>
      rintro bh bl fine ⟨hat, hin⟩
      have hscroll := setScroll_of_inRange (e := e) (x := x) (s := s.quiet) hb hin
      exact ⟨fun h => exec_edit_writes hat rfl hscroll hmay (if_pos h),
        fun h => exec_edit_refuses hat rfl hscroll hmay (if_neg h.not_gt)⟩
    case cursor =>
      rintro ch cl start stop blink ⟨hat, hin⟩
      exact exec_edit_writes hat rfl (setCursor_of_inRange hb hin) hmay rfl
    case border =>
      rintro width colour ⟨hat, hin⟩
      have hborder := setBorder_of_inRange (e := e) (x := x) (s := s.quiet) hb hin
      exact ⟨fun h => exec_edit_writes hat rfl hborder hmay (if_pos h),
        fun h => exec_edit_refuses hat rfl hborder hmay (if_neg h.not_ge)⟩
    case key =>
      rintro kr kg kb mr mg mb sense ⟨hat, hin⟩
      exact exec_edit_writes hat rfl (setKey_of_inRange hb hin) hmay rfl
    case split =>
      rintro row bh bl ⟨hat, hin⟩
      have hsplit := setSplit_of_inRange (e := e) (x := x) (s := s.quiet) hb hin
      exact ⟨fun h => exec_edit_writes hat rfl hsplit hmay (if_pos h),
        fun h => exec_edit_refuses hat rfl hsplit hmay (if_neg h.not_ge)⟩
    case noCursor | noBorder | noKey | noSplit =>
      rintro ⟨hat, -⟩
      exact exec_edit_writes hat rfl (clearPart_of_part hb rfl) hmay rfl

end Sys2Proof.Machine

namespace Sys2Proof.Machine

/-! ### The bytes that the reads report (Tables 50 and 51) -/

theorem recordFlags_eq (dual blink : Bool) :
    bit dual + 2 * bit blink = byte ((if dual then 1 else 0) + (if blink then 2 else 0)) := by
  cases dual <;> cases blink <;> rfl

theorem presence_eq (r : WindowRecord) :
    bit r.cursor.isSome + 2 * bit r.border.isSome + 4 * bit r.key.isSome + 8 * bit r.split.isSome
      = byte ((if r.cursor = none then 0 else 1) + (if r.border = none then 0 else 2)
          + (if r.key = none then 0 else 4) + (if r.split = none then 0 else 8)) := by
  cases r.cursor <;> cases r.border <;> cases r.key <;> cases r.split <;> rfl

theorem keySenseByte_eq (k : KeySense) : keySenseByte k = if k = .isMatch then 0 else 1 := by
  cases k <;> rfl

theorem glyphRowBytes_eq (w : Word) : glyphRowBytes w = bytes16 w.toNat := by
  have hhigh : w.extractLsb' 8 8 = BitVec.ofNat 8 (w.toNat / 256) := by
    apply BitVec.eq_of_toNat_eq
    simp [Nat.shiftRight_eq_div_pow]
  have hlow : w.extractLsb' 0 8 = BitVec.ofNat 8 w.toNat := by
    apply BitVec.eq_of_toNat_eq
    simp
  simp [glyphRowBytes, bytes16, hhigh, hlow]

theorem glyphData_eq (m : Store Word) (bank code : Nat) : glyphData m bank code =
    (List.range 32).flatMap fun row => bytes16 (glyphRow m bank code row).toNat := by
  simp only [glyphData, glyphRowBytes_eq]

theorem windowData_of_unclaimed {live : Bool} {slot : Fin 8} {s : State}
    (h : (s.selectScene live).windows[slot] = none) :
    windowData live slot s = [0, 0, 0xFF, 0] ++ List.replicate 35 0 := by
  simp only [windowData, h, windowBytes]

/-- Table 51: the data of a claimed slot, with its owner's peer address as long as the owner is OPEN. -/
theorem windowData_of_claimed {live : Bool} {slot : Fin 8} {s : State} {r : WindowRecord}
    (h : (s.selectScene live).windows[slot] = some r) : windowData live slot s = windowBytes (some r)
      (if (s.session r.owner).isOpen then (s.session r.owner).peer else 0xFF)
      (live && s.scene.teardown.contains slot) := by
  simp only [windowData, h]

theorem teardownFlag_eq (sel : Byte) (slot : Fin 8) (teardown : List (Fin 8)) :
    bit (decide (sel = 1) && teardown.contains slot) = if sel = 1 ∧ slot ∈ teardown then 1 else 0 := by
  simp [bit]

/-- Tables 50 and 51: the owner, the record group and the presence byte in one run. -/
theorem windowHead_eq (r : WindowRecord) (peer torn : Byte) :
    [1, byte r.owner.1, peer, torn] ++ recordGroupBytes r
      ++ [bit r.cursor.isSome + 2 * bit r.border.isSome + 4 * bit r.key.isSome + 8 * bit r.split.isSome]
    = [1, byte r.owner.1, peer, torn] ++ bytes16 r.x ++ bytes16 r.y
      ++ [byte r.columns, byte r.rows, byte r.cellWidth, byte r.cellHeight, byte r.pitch] ++ bytes16 r.base
      ++ [byte r.fine, byte r.bankA, byte r.bankB, byte r.palette.1,
        byte ((if r.dualBank then 1 else 0) + (if r.blinkEnable then 2 else 0)), byte r.underlineLine,
        byte ((if r.cursor = none then 0 else 1) + (if r.border = none then 0 else 2)
          + (if r.key = none then 0 else 4) + (if r.split = none then 0 else 8))] := by
  rw [presence_eq]
  simp only [recordGroupBytes, recordFlags_eq, List.append_assoc, List.cons_append, List.nil_append]

theorem selectScene_eq (s : State) (sel : Byte) :
    s.selectScene (decide (sel = 1)) = if sel = 1 then s.scene.live else s.scene.staged := by
  simp [State.selectScene]

/-! ### Reads on operands that pass check 2 (R42, R43, R54, R73, R88, R89) -/

/-- R20, R164: a read row appends its data, or is refused TOO_LARGE, and changes nothing. -/
theorem exec_read {i : Instr} {code : Byte} {f : Fin 4 → Executing → List Byte → State → Verdict} {s : State}
    {e : Fin 4} {x : Executing} {ops data : List Byte} (hat : s.standsAt code e x ops)
    (hrow : exec i s = .next (runCommand code f s)) (hv : f e x ops s.quiet = Verdict.read x s.quiet data) :
    (x.hasRoom data.length → exec i s = .next (carryOn e (x.after data) s.quiet))
    ∧ (¬ x.hasRoom data.length → exec i s = .next (refusePacket .tooLarge e x s.quiet)) :=
  ⟨fun hroom => exec_of_verdict hat hrow (hv.trans (read_of_room x _ _ hroom)),
    fun hroom => exec_of_verdict hat hrow (hv.trans (read_of_no_room x _ _ hroom))⟩

/-- Check 2 of READ COLOURS (R89). -/
theorem operandsInRange_readColours (sel first count : Byte) : operandsInRange .readColours [sel, first, count]
    = (decide (sel.toNat < 2) && decide (0 < count.toNat) && decide (count.toNat < 51)
        && decide (first.toNat + count.toNat < 257)) := rfl

/-- Check 2 of READ CELLS (R54). -/
theorem operandsInRange_readCells (sh sl count : Byte) : operandsInRange .readCells [sh, sl, count]
    = (isCellIndex sh sl && decide (0 < count.toNat) && decide (count.toNat < 65)) := rfl

section Reads

variable {s : State} {e : Fin 4} {x : Executing} {sel : Byte}

theorem readOrder_of_inRange (h : operandsInRange .readOrder [sel] = true) : readOrder e x [sel] s =
    Verdict.read x s (orderData (s.selectScene (decide (sel = 1))).order) := by
  have hsel : sel.toNat < 2 := of_decide_eq_true h
  simp only [readOrder, sceneSelector_of_lt hsel]

theorem readWindow_of_inRange {b : Byte} {slot : Fin 8} (h : operandsInRange .readWindow [sel, b] = true)
    (hb : b.toNat = slot.1) : readWindow e x [sel, b] s = Verdict.read x s (windowData (decide (sel = 1)) slot s) := by
  have hsel : sel.toNat < 2 := of_decide_eq_true (Bool.and_eq_true_iff.1 h).1
  simp only [readWindow, sceneSelector_of_lt hsel, slotOf_of_toNat hb]

theorem readPalette_of_inRange {b : Byte} {p : Fin 4} (h : operandsInRange .readPalette [sel, b] = true)
    (hb : b.toNat = p.1) : readPalette e x [sel, b] s =
      Verdict.read x s (paletteData (s.selectScene (decide (sel = 1))) p) := by
  have hsel : sel.toNat < 2 := of_decide_eq_true (Bool.and_eq_true_iff.1 h).1
  simp only [readPalette, sceneSelector_of_lt hsel, paletteOf_of_toNat hb]

theorem readColours_of_inRange {first count : Byte} (h : operandsInRange .readColours [sel, first, count] = true) :
    readColours e x [sel, first, count] s =
      Verdict.read x s (coloursData (s.selectScene (decide (sel = 1))) first.toNat count.toNat) := by
  rw [operandsInRange_readColours] at h
  simp only [Bool.and_eq_true, decide_eq_true_eq] at h
  obtain ⟨⟨⟨hsel, hlow⟩, hhigh⟩, hend⟩ := h
  simp only [readColours, sceneSelector_of_lt hsel]
  exact if_pos (by omega)

theorem readCells_of_inRange {sh sl count : Byte} (h : operandsInRange .readCells [sh, sl, count] = true) :
    readCells e x [sh, sl, count] s = Verdict.read x s (cellsData s.cells (be16 sh sl) count.toNat) := by
  rw [operandsInRange_readCells] at h
  simp only [Bool.and_eq_true, decide_eq_true_eq] at h
  obtain ⟨⟨hstart, hlow⟩, hhigh⟩ := h
  simp only [readCells, cellIndexOf_of_isCellIndex hstart]
  exact if_pos (by omega)

theorem readGlyph_of_inRange {bank code : Byte} (h : operandsInRange .readGlyph [bank, code] = true) :
    readGlyph e x [bank, code] s = Verdict.read x s (glyphData s.glyphs bank.toNat code.toNat) := by
  have hbank : bank.toNat < 8 := of_decide_eq_true h
  exact if_pos (by omega)

end Reads

/-- Settles O49. -/
theorem readsReportWhatStands : Obligations.ReadsReportWhatStands := by
  intro s e x sel sc reads stands
  have hscene : s.quiet.selectScene (decide (sel = 1)) = sc := selectScene_eq s.quiet sel
  refine ⟨?order, ?window, ?palette, ?colours, ?cells, ?glyph⟩
  case order =>
    rintro ⟨hat, hin⟩
    rw [← hscene]
    exact exec_read hat rfl (readOrder_of_inRange hin)
  case window =>
    rintro b slot ⟨hat, hin⟩ hb
    have hread := exec_read (i := .readWindow) hat rfl (readWindow_of_inRange hin hb)
    refine ⟨fun hnone => ?unclaimed, fun r hr => ?claimed⟩
    case unclaimed =>
      rw [windowData_of_unclaimed (by rw [hscene]; exact hnone)] at hread
      exact hread
    case claimed =>
      rw [windowData_of_claimed (by rw [hscene]; exact hr)] at hread
      refine (congrArg (reads .readWindow) ?_).mp hread
      refine congrArg₂ (· ++ ·) (congrArg₂ (· ++ ·) (congrArg₂ (· ++ ·) (congrArg₂ (· ++ ·)
        ?head ?cursor) ?border) ?key) ?split
      case head =>
        rw [windowHead_eq, teardownFlag_eq]
        rfl
      case cursor => cases r.cursor <;> rfl
      case border => cases r.border <;> rfl
      case key =>
        cases r.key with
        | none => rfl
        | some k => simp only [keyBytes, keySenseByte_eq]
      case split => cases r.split <;> rfl
  case palette =>
    rintro b p ⟨hat, hin⟩ hb
    rw [← hscene]
    exact exec_read hat rfl (readPalette_of_inRange hin hb)
  case colours =>
    rintro first count ⟨hat, hin⟩
    rw [← hscene]
    exact exec_read hat rfl (readColours_of_inRange hin)
  case cells =>
    rintro sh sl count ⟨hat, hin⟩
    exact exec_read hat rfl (readCells_of_inRange hin)
  case glyph =>
    rintro bank code ⟨hat, hin⟩
    rw [← glyphData_eq]
    exact exec_read hat rfl (readGlyph_of_inRange hin)

end Sys2Proof.Machine

namespace Sys2Proof.Machine

/-! ### Row fetches that fall before a cell write (R60, R61, R101) -/

/-- The Row Cache and the row state of a slot are as they were. -/
def rowKept (s b : State) (k : Fin 8) : Prop :=
  b.comp.caches[k] = s.comp.caches[k] ∧ b.comp.rows[k] = s.comp.rows[k]

/-- A fetch of the cells of `s` was taken into the slot's Row Cache (R98). -/
def rowTaken (s b : State) (k : Fin 8) (f : RowState) (r : WindowRecord) : Prop :=
  b.comp.caches[k] = rowCells s.cells r.columns f.first ∧ b.comp.rows[k] = some f

/-- Between `s` and `b` the fetches `now` were taken and the fetches `later` joined those owed. -/
structure Fetched (later now : List (Fin 8 × RowState)) (s b : State) : Prop where
  comp : b.comp = { s.comp with caches := b.comp.caches, rows := b.comp.rows, owed := s.comp.owed ++ later }
  cells : b.cells = s.cells
  scene : b.scene = s.scene
  rows : ∀ k : Fin 8, (rowKept s b k ∧ ∀ f, (k, f) ∈ now → s.scene.live.windows[k] = none)
    ∨ ∃ f r, (k, f) ∈ now ∧ s.scene.live.windows[k] = some r ∧ rowTaken s b k f r

theorem Fetched.of_same {s b : State} (hcomp : b.comp = s.comp) (hcells : b.cells = s.cells)
    (hscene : b.scene = s.scene) : Fetched [] [] s b :=
  ⟨by simp [hcomp], hcells, hscene, fun _ => .inl ⟨by simp [rowKept, hcomp], nofun⟩⟩

/-- Of two fetches for one slot the later one stands. -/
theorem Fetched.trans {later now later' now' : List (Fin 8 × RowState)} {s t u : State} (h : Fetched later now s t)
    (g : Fetched later' now' t u) : Fetched (later ++ later') (now ++ now') s u where
  comp := by
    rw [g.comp, h.comp]
    simp
  cells := g.cells.trans h.cells
  scene := g.scene.trans h.scene
  rows k := by
    rcases g.rows k with ⟨⟨hcache, hrow⟩, hnone'⟩ | ⟨f, r, hf, hr, hcache, hrow⟩
    · rw [h.scene] at hnone'
      rcases h.rows k with ⟨⟨hcache', hrow'⟩, hnone⟩ | ⟨f, r, hf, hr, hcache', hrow'⟩
      · refine .inl ⟨⟨hcache.trans hcache', hrow.trans hrow'⟩, fun f hf => ?_⟩
        exact (List.mem_append.1 hf).elim (hnone f) (hnone' f)
      · exact .inr ⟨f, r, List.mem_append_left _ hf, hr, hcache.trans hcache', hrow.trans hrow'⟩
    · rw [h.scene] at hr
      rw [h.cells] at hcache
      exact .inr ⟨f, r, List.mem_append_right _ hf, hr, hcache, hrow⟩

theorem takeFetch_fetched (f : Fin 8 × RowState) (s : State) : Fetched [] [f] s (takeFetch f s) := by
  cases hr : s.scene.live.windows[f.1] with
  | none =>
    have hnext : takeFetch f s = s := by simp only [takeFetch, hr]
    rw [hnext]
    refine ⟨by simp, rfl, rfl, fun k => .inl ⟨⟨rfl, rfl⟩, fun g hg => ?_⟩⟩
    obtain rfl := List.mem_singleton.1 hg
    exact hr
  | some r =>
    refine ⟨?_, by simp, by simp, fun k => ?_⟩
    · simp only [takeFetch, hr, List.append_nil]
    · by_cases hk : k = f.1
      · subst hk
        refine .inr ⟨f.2, r, by simp, hr, ?_⟩
        simp [rowTaken, takeFetch, hr]
      · have hne : f.1.1 ≠ k.1 := fun h => hk (Fin.ext h.symm)
        refine .inl ⟨?_, fun g hg => absurd (congrArg Prod.fst (List.mem_singleton.1 hg)) hk⟩
        simp [rowKept, takeFetch, hr, hne]

/-- An owed fetch is taken, or stays owed. -/
theorem fetchOrKeep_fetched (s : State) (f : Fin 8 × RowState) :
    Fetched [] [f] s (fetchOrKeep s f) ∨ Fetched [f] [] s (fetchOrKeep s f) := by
  have hdraw : Fetched [] [] s s.draw.2 := .of_same rfl rfl rfl
  have hstep : fetchOrKeep s f = if s.draw.1 then takeFetch f s.draw.2 else
    { s.draw.2 with comp := { s.draw.2.comp with owed := s.draw.2.comp.owed ++ [f] } } := rfl
  rw [hstep]
  split
  · exact .inl (hdraw.trans (takeFetch_fetched f s.draw.2))
  · exact .inr ⟨rfl, rfl, rfl, fun _ => .inl ⟨⟨rfl, rfl⟩, nofun⟩⟩

/-- Each fetch of a list is taken or stays owed, and those that stay keep their order. -/
theorem foldl_fetchOrKeep_fetched (l : List (Fin 8 × RowState)) (s : State) :
    ∃ later now, later.Sublist l ∧ (later ++ now).Perm l ∧ Fetched later now s (l.foldl fetchOrKeep s) := by
  induction l generalizing s with
  | nil => exact ⟨[], [], .refl [], .refl [], Fetched.of_same rfl rfl rfl⟩
  | cons f rest ih =>
    obtain ⟨later, now, hsub, hperm, hrest⟩ := ih (fetchOrKeep s f)
    rcases fetchOrKeep_fetched s f with hf | hf
    · exact ⟨later, f :: now, hsub.cons f, List.perm_middle.trans (hperm.cons f), hf.trans hrest⟩
    · exact ⟨f :: later, now, hsub.cons_cons f, hperm.cons f, hf.trans hrest⟩

/-- R60, R61, R101: what the owed fetches do before a cell write. -/
theorem fetchSome_fetchesTaken (s : State) : fetchesTaken s (fetchSome s) := by
  obtain ⟨later, now, hsub, hperm, hf⟩ :=
    foldl_fetchOrKeep_fetched s.comp.owed { s with comp := { s.comp with owed := [] } }
  have howed : (fetchSome s).comp.owed = later := congrArg Compositor.owed hf.comp
  have hnow {f : Fin 8 × RowState} (h : f ∈ now) : f ∈ s.comp.owed :=
    hperm.subset (List.mem_append_right _ h)
  refine ⟨by rw [howed]; exact hf.comp, howed ▸ hsub, fun k => ?each, fun hnodup k f r hmem hr => ?once⟩
  case each =>
    rcases hf.rows k with ⟨hkept, -⟩ | ⟨f, r, hmem, hr, htaken⟩
    · exact .inl hkept
    · exact .inr ⟨f, r, hnow hmem, hr, htaken⟩
  case once =>
    have hkeys : (later.map Prod.fst ++ now.map Prod.fst).Nodup := by
      rw [← List.map_append]
      exact (hperm.map Prod.fst).nodup_iff.2 hnodup
    have happart := (List.nodup_append'.1 hkeys).2.2
    have hunique {g : RowState} (hg : (k, g) ∈ s.comp.owed) : g = f :=
      congrArg Prod.snd (List.inj_on_of_nodup_map hnodup hg hmem rfl)
    rw [howed]
    rcases hf.rows k with ⟨hkept, hnone⟩ | ⟨g, r', hg, hr', htaken⟩
    · have hout : (k, f) ∉ now := fun h => by
        have hwindow : s.scene.live.windows[k] = none := hnone f h
        rw [hr] at hwindow
        cases hwindow
      exact .inl ⟨(List.mem_append.1 (hperm.mem_iff.2 hmem)).resolve_right hout, hkept⟩
    · obtain rfl := hunique (hnow hg)
      obtain rfl : r' = r := Option.some.inj (hr'.symm.trans hr)
      exact .inr ⟨fun hl => happart (List.mem_map_of_mem hl) (List.mem_map_of_mem hg), htaken⟩

theorem fetchSome_of_none_owed {s : State} (h : s.comp.owed = []) : fetchSome s = s := by
  have hsame : { s with comp := { s.comp with owed := [] } } = s := by rw [← h]
  simp only [fetchSome, h, List.foldl_nil, hsame]

/-- The Cell Buffer takes these cells, after the owed fetches that fall before. -/
def State.withCells (s : State) (cells : Store Cell) : State := { fetchSome s with cells := cells }

/-- Such a write changes the Cell Buffer, the Compositor and the count of free choices alone. -/
theorem withCells_eq (s : State) (cells : Store Cell) : s.withCells cells =
    { s with comp := (s.withCells cells).comp, draws := (s.withCells cells).draws, cells := cells } :=
  foldl_keeps
    (fun t : State => { t with
      comp := (s.withCells cells).comp, draws := (s.withCells cells).draws, cells := cells })
    fetchOrKeep (fun t f => by
      unfold fetchOrKeep
      dsimp only
      split_ifs
      · unfold takeFetch
        split <;> rfl
      · rfl) _ _

theorem withCells_comp_of_none_owed {s : State} (cells : Store Cell) (h : s.comp.owed = []) :
    (s.withCells cells).comp = s.comp := by
  change (fetchSome s).comp = s.comp
  rw [fetchSome_of_none_owed h]

theorem withCells_fetchesTaken (s : State) (cells : Store Cell) : fetchesTaken s (s.withCells cells) :=
  fetchSome_fetchesTaken s

end Sys2Proof.Machine

namespace Sys2Proof.Machine

/-! ### Check 7 (R46, R52) -/

/-- R46: a range holds the indices its cells reach, modulo 16,384. -/
theorem inRange_iff (start count index : Nat) :
    inRange start count index = true ↔ ∃ j, j < count ∧ index % 16384 = (start + j) % 16384 := by
  have hin : inRange start count index = true
      ↔ (index % 16384 + 16384 - start % 16384) % 16384 < count := decide_eq_true_iff
  rw [hin]
  constructor
  · intro h
    exact ⟨(index % 16384 + 16384 - start % 16384) % 16384, h, by omega⟩
  · rintro ⟨j, hj, heq⟩
    omega

/-- R26: the extent of a window is its upper range and, with a split, its split range. -/
theorem inExtent_iff (r : WindowRecord) (i : Nat) : inExtent r i = true ↔
    (∃ j, j < (r.rows + 1) * r.pitch ∧ i % 16384 = (r.base + j) % 16384)
    ∨ ∃ p, r.split = some p ∧ ∃ j, j < (r.rows - p.row) * r.pitch ∧ i % 16384 = (p.base + j) % 16384 := by
  unfold inExtent
  cases hsplit : r.split with
  | none => simp [inRange_iff]
  | some p => simp [inRange_iff]

theorem inOwnExtents_iff (sc : Scene) (e : Fin 4) (i : Nat) : inOwnExtents sc e i = true ↔
    ∃ (k : Fin 8) (r : WindowRecord), sc.windows[k] = some r ∧ r.owner = e ∧ inExtent r i = true := by
  simp only [inOwnExtents, allSlots_eq, List.any_eq_true, List.mem_finRange, true_and]
  refine exists_congr fun k => ?_
  cases sc.windows[k] with
  | none => simp
  | some r => simp

theorem withinExtents_of_not_mayWrite {e : Fin 4} {s : State} {targets : List Nat} (k : Verdict)
    (h : ¬ s.mayWrite e targets) : withinExtents e s targets k = .refuse .outOfExtent := by
  obtain ⟨hrole, hout⟩ := not_or.1 h
  have hclient : (s.session e).role = .client := by
    cases hr : (s.session e).role with
    | control => exact absurd hr hrole
    | client => rfl
  exact if_pos ⟨hclient, fun hall => hout (List.all_eq_true.1 hall)⟩

/-! ### The operands of the cell commands (R48, R49, R53) -/

theorem careMaskOf_of_lt {b : Byte} (h : b.toNat < 16) : careMaskOf b = some (b.extractLsb' 0 4) := if_pos h

theorem fieldMaskOf_of_range {b : Byte} (hlow : 0 < b.toNat) (hhigh : b.toNat < 16) :
    fieldMaskOf b = some (b.extractLsb' 0 4) := by
  have hne : b ≠ 0 := by rintro rfl; cases hlow
  rw [fieldMaskOf, if_neg hne, careMaskOf_of_lt hhigh]

theorem cellOf_of_lt {code colours flags : Byte} (h : flags.toNat < 16) : cellOf code colours flags =
    some ⟨code, colours.extractLsb' 0 4, colours.extractLsb' 4 4, flags.extractLsb' 0 4⟩ := if_pos h

theorem cellCountOf_of_isCellCount {hi lo : Byte} (h : isCellCount hi lo = true) :
    cellCountOf hi lo = some (be16 hi lo) := by
  simp only [isCellCount, Bool.and_eq_true, decide_eq_true_eq] at h
  exact if_pos (by omega)

/-- The `k`-th cell of a list of three-byte cells (R53). -/
def wireCell (list : List Byte) (k : Nat) : Cell :=
  ⟨list.getD (3 * k) 0, (list.getD (3 * k + 1) 0).extractLsb' 0 4, (list.getD (3 * k + 1) 0).extractLsb' 4 4,
    (list.getD (3 * k + 2) 0).extractLsb' 0 4⟩

theorem wireCell_succ (a b c : Byte) (rest : List Byte) (k : Nat) :
    wireCell (a :: b :: c :: rest) (k + 1) = wireCell rest k := by
  simp only [wireCell, Nat.mul_succ, Nat.add_right_comm _ 3, List.getD_cons_succ]

theorem cellsOf_of_inRange : ∀ list : List Byte, list.length % 3 = 0 →
    (∀ k, k < list.length / 3 → (list.getD (3 * k + 2) 0).toNat < 16) →
    cellsOf list = some ((List.range (list.length / 3)).map (wireCell list))
  | [], _, _ => rfl
  | [_], hlen, _ => by cases hlen
  | [_, _], hlen, _ => by cases hlen
  | a :: b :: c :: rest, hlen, hflags => by
    have hthird : (a :: b :: c :: rest).length / 3 = rest.length / 3 + 1 := by
      simp only [List.length_cons]
      omega
    have hlen' : rest.length % 3 = 0 := by
      simp only [List.length_cons] at hlen
      omega
    have hrest := cellsOf_of_inRange rest hlen' fun k hk => hflags (k + 1) (by omega)
    have hhead : cellOf a b c = some (wireCell (a :: b :: c :: rest) 0) := cellOf_of_lt (hflags 0 (by omega))
    simp only [cellsOf, hhead, hrest, hthird, List.range_succ_eq_map, List.map_cons, List.map_map]
    simp [Function.comp_def, wireCell_succ]

/-! ### The cell commands and CLEAR BANK on operands that pass check 2 (R53, R56, R57, R59, R71) -/

/-- Check 2 of FILL CELLS (R56). -/
theorem operandsInRange_fillCells (sh sl ch cl mask a colours flags : Byte) :
    operandsInRange .fillCells [sh, sl, ch, cl, mask, a, colours, flags]
      = (isCellIndex sh sl && isCellCount ch cl && decide (0 < mask.toNat) && decide (mask.toNat < 16)
        && decide (flags.toNat < 16)) := rfl

/-- Check 2 of COPY CELLS (R57). -/
theorem operandsInRange_copyCells (sh sl sp dh dl dp width height : Byte) :
    operandsInRange .copyCells [sh, sl, sp, dh, dl, dp, width, height]
      = (isCellIndex sh sl && decide (0 < sp.toNat) && isCellIndex dh dl && decide (0 < dp.toNat)
        && decide (0 < width.toNat) && decide (width.toNat < 161) && decide (0 < height.toNat)
        && decide (height.toNat < 121)) := rfl

/-- Check 2 of FIND CELLS (R59). -/
theorem operandsInRange_findCells (sh sl ch cl a colours flags mask : Byte) :
    operandsInRange .findCells [sh, sl, ch, cl, a, colours, flags, mask]
      = (isCellIndex sh sl && isCellCount ch cl && decide (flags.toNat < 16) && decide (mask.toNat < 16)) := rfl

/-- Check 2 of WRITE CELLS (R53). -/
theorem operandsInRange_writeCells (sh sl mask : Byte) (list : List Byte) :
    operandsInRange .writeCells (sh :: sl :: mask :: list)
      = (isCellIndex sh sl && decide (0 < mask.toNat) && decide (mask.toNat < 16) && list.length % 3 == 0
        && decide (0 < list.length) && decide (list.length < 235)
        && (List.range (list.length / 3)).all fun k => (list.getD (3 * k + 2) 0).toNat < 16) := rfl

section CellCommands

variable {s : State} {e : Fin 4} {x : Executing}

theorem fillCells_of_inRange {sh sl ch cl mask a colours flags : Byte}
    (h : operandsInRange .fillCells [sh, sl, ch, cl, mask, a, colours, flags] = true) :
    fillCells e x [sh, sl, ch, cl, mask, a, colours, flags] s =
      withinExtents e s (rangeTargets (be16 sh sl) (be16 ch cl)) (.long s (.fill (be16 sh sl) (be16 ch cl)
        (mask.extractLsb' 0 4) ⟨a, colours.extractLsb' 0 4, colours.extractLsb' 4 4, flags.extractLsb' 0 4⟩ 0)) := by
  simp only [operandsInRange_fillCells, Bool.and_eq_true, decide_eq_true_eq] at h
  obtain ⟨⟨⟨⟨hstart, hcount⟩, hlow⟩, hhigh⟩, hflags⟩ := h
  simp only [fillCells, cellIndexOf_of_isCellIndex hstart, cellCountOf_of_isCellCount hcount,
    fieldMaskOf_of_range hlow hhigh, cellOf_of_lt hflags]

theorem copyCells_of_inRange {sh sl sp dh dl dp width height : Byte}
    (h : operandsInRange .copyCells [sh, sl, sp, dh, dl, dp, width, height] = true) :
    copyCells e x [sh, sl, sp, dh, dl, dp, width, height] s =
      withinExtents e s (copyTargets (be16 dh dl) dp.toNat width.toNat height.toNat)
        (.long s (.copy (be16 sh sl) sp.toNat (be16 dh dl) dp.toNat width.toNat height.toNat 0)) := by
  simp only [operandsInRange_copyCells, Bool.and_eq_true, decide_eq_true_eq] at h
  obtain ⟨⟨⟨⟨⟨⟨⟨hsrc, hsp⟩, hdst⟩, hdp⟩, hwidth⟩, hwidth'⟩, hheight⟩, hheight'⟩ := h
  simp only [copyCells, cellIndexOf_of_isCellIndex hsrc, cellIndexOf_of_isCellIndex hdst]
  exact if_pos (by omega)

theorem findCells_of_inRange {sh sl ch cl a colours flags mask : Byte}
    (h : operandsInRange .findCells [sh, sl, ch, cl, a, colours, flags, mask] = true) :
    findCells e x [sh, sl, ch, cl, a, colours, flags, mask] s =
      if x.hasRoom 4 then .long s (.find (be16 sh sl) (be16 ch cl)
        ⟨a, colours.extractLsb' 0 4, colours.extractLsb' 4 4, flags.extractLsb' 0 4⟩ (mask.extractLsb' 0 4) 0 0 none)
      else .refuse .tooLarge := by
  simp only [operandsInRange_findCells, Bool.and_eq_true, decide_eq_true_eq] at h
  obtain ⟨⟨⟨hstart, hcount⟩, hflags⟩, hmask⟩ := h
  simp only [findCells, cellIndexOf_of_isCellIndex hstart, cellCountOf_of_isCellCount hcount, cellOf_of_lt hflags,
    careMaskOf_of_lt hmask]
  rfl

theorem clearBank_of_inRange {bank : Byte} (h : operandsInRange .clearBank [bank] = true) :
    clearBank e x [bank] s = controlOnly e s (.long s (.clearBank bank.toNat 0)) := by
  have hbank : bank.toNat < 8 := of_decide_eq_true h
  exact if_pos (by omega)

/-- R53, R46: WRITE CELLS on operands that pass check 2. -/
theorem writeCells_of_inRange {sh sl mask : Byte} {list : List Byte}
    (h : operandsInRange .writeCells (sh :: sl :: mask :: list) = true) :
    writeCells e x (sh :: sl :: mask :: list) s =
      withinExtents e s (rangeTargets (be16 sh sl) (list.length / 3)) (.done (s.withCells
        (writeRun (mask.extractLsb' 0 4) (be16 sh sl) ((List.range (list.length / 3)).map (wireCell list)) s.cells)) [])
    ∧ list.length / 3 ≤ 78 := by
  simp only [operandsInRange_writeCells, Bool.and_eq_true, decide_eq_true_eq, beq_iff_eq, List.all_eq_true,
    List.mem_range] at h
  obtain ⟨⟨⟨⟨⟨⟨hstart, hlow⟩, hhigh⟩, hlen⟩, hsome⟩, hmost⟩, hflags⟩ := h
  have hcount : 1 ≤ list.length / 3 ∧ list.length / 3 ≤ 78 := by omega
  refine ⟨?_, hcount.2⟩
  simp only [writeCells, cellIndexOf_of_isCellIndex hstart, fieldMaskOf_of_range hlow hhigh,
    cellsOf_of_inRange list hlen hflags, List.length_map, List.length_range, if_pos hcount, fetchSome_frame,
    State.withCells]

/-- Check 7 and what follows it, for a row whose command ends in it (R52). -/
theorem exec_of_withinExtents {i : Instr} {code : Byte} {f : Fin 4 → Executing → List Byte → State → Verdict}
    {ops : List Byte} {targets : List Nat} {v : Verdict} (hat : s.standsAt code e x ops)
    (hrow : exec i s = .next (runCommand code f s)) (hf : f e x ops s.quiet = withinExtents e s.quiet targets v) :
    (s.mayWrite e targets → exec i s = .next (conclude e x s.quiet v))
    ∧ (¬ s.mayWrite e targets → exec i s = .next (refusePacket .outOfExtent e x s.quiet)) :=
  ⟨fun h => exec_of_verdict hat hrow (hf.trans (withinExtents_of_mayWrite e s.quiet targets v h)),
    fun h => exec_of_verdict hat hrow (hf.trans (withinExtents_of_not_mayWrite v h))⟩

end CellCommands

/-- Settles O51: each command ends in its own later check, and past it in a long command. -/
theorem longCommandsBeginTheirSteps : Obligations.LongCommandsBeginTheirSteps := by
  intro s e x begins stands
  refine ⟨?fill, ?copy, ?find, ?clearBank⟩
  case fill =>
    rintro sh sl ch cl mask a colours flags ⟨hat, hin⟩
    exact exec_of_withinExtents hat rfl (fillCells_of_inRange hin)
  case copy =>
    rintro sh sl sp dh dl dp width height ⟨hat, hin⟩
    exact exec_of_withinExtents hat rfl (copyCells_of_inRange hin)
  case find =>
    rintro sh sl ch cl a colours flags mask ⟨hat, hin⟩
    have hfind := findCells_of_inRange (e := e) (x := x) (s := s.quiet) hin
    exact ⟨fun hroom => exec_of_verdict hat rfl (hfind.trans (if_pos hroom)),
      fun hroom => exec_of_verdict hat rfl (hfind.trans (if_neg hroom))⟩
  case clearBank =>
    rintro bank ⟨hat, hin⟩ hrole
    exact exec_of_verdict hat rfl
      ((clearBank_of_inRange hin).trans (controlOnly_of_control e s.quiet _ hrole))

end Sys2Proof.Machine

namespace Sys2Proof.Machine

/-! ### Cells after a write (R46, R48) -/

theorem cellAt_congr {i j : Nat} (m : Store Cell) (h : i % 16384 = j % 16384) : cellAt m i = cellAt m j :=
  congrArg (Store.read Cell.clear m) h

/-- Reading a cell after a write, wherever it lies. -/
theorem cellAt_setCell {m : Store Cell} (h : Store.wf Cell.clear 16384 m) (i j : Nat) (c : Cell) :
    cellAt (setCell m i c) j = if j % 16384 = i % 16384 then c else cellAt m j := by
  split
  · next heq => rw [cellAt_congr _ heq, cellAt_setCell_same m i c h]
  · next hne => exact cellAt_setCell_other m i j c hne

/-- R53: a run writes no cell outside its range. -/
theorem cellAt_writeRun_outside (mask : BitVec 4) {j : Nat} (cs : List Cell) : ∀ (i : Nat) (m : Store Cell),
    (∀ k, k < cs.length → j % 16384 ≠ (i + k) % 16384) → cellAt (writeRun mask i cs m) j = cellAt m j := by
  induction cs with
  | nil => exact fun _ _ _ => rfl
  | cons c rest ih =>
    intro i m hout
    have hrest (k : Nat) (hk : k < rest.length) : j % 16384 ≠ (i + 1 + k) % 16384 := by
      have := hout (k + 1) (by simpa using hk)
      rwa [Nat.add_assoc, Nat.add_comm 1 k]
    rw [writeRun, ih _ _ hrest]
    exact cellAt_setCell_other m i j _ (hout 0 (by simp))

/-- R53, R48: a run that does not meet itself writes its `k`-th cell over the old one. -/
theorem cellAt_writeRun (mask : BitVec 4) (cs : List Cell) : ∀ (i k : Nat) (m : Store Cell),
    Store.wf Cell.clear 16384 m → cs.length ≤ 16384 → (hk : k < cs.length) →
    cellAt (writeRun mask i cs m) (i + k) = mergeCell mask cs[k] (cellAt m (i + k)) := by
  induction cs with
  | nil => exact fun _ _ _ _ _ hk => absurd hk (by simp)
  | cons c rest ih =>
    intro i k m hm hlen hk
    simp only [List.length_cons] at hlen hk
    cases k with
    | zero =>
      rw [writeRun, cellAt_writeRun_outside mask rest _ _ fun k hk' => by omega, cellAt_setCell hm]
      simp
    | succ k =>
      have hnext : i + (k + 1) = i + 1 + k := by omega
      rw [writeRun, hnext, ih _ _ _ (setCell_wf m i _ hm) (by omega) (by omega), cellAt_setCell hm,
        if_neg (by omega)]
      rfl

/-- Settles O50: the run is one write behind the owed fetches, and check 7 counts its cells. -/
theorem writeCellsStaysInItsExtents : Obligations.WriteCellsStaysInItsExtents := by
  refine ⟨?write, ?extents⟩
  case write =>
    intro s e x sh sl mask list hat hstores hin targets
    obtain ⟨hcells, -⟩ := hstores
    obtain ⟨hwrite, hcount⟩ := writeCells_of_inRange (e := e) (x := x) (s := s.quiet) hin
    obtain ⟨hgo, hrefuse⟩ := exec_of_withinExtents (i := .writeCells) hat rfl hwrite
    refine ⟨hrefuse, fun hmay => ⟨_, hgo hmay, withCells_eq _ _, withCells_comp_of_none_owed (s := s.quiet) _,
      withCells_fetchesTaken s.quiet _, fun i hi => ?others, fun k hk => ?written⟩⟩
    case others =>
      refine cellAt_writeRun_outside _ _ _ _ fun k hk heq => hi (List.mem_map.2 ⟨k, ?_, heq.symm⟩)
      simpa using hk
    case written =>
      refine (cellAt_writeRun _ _ (be16 sh sl) k _ hcells (by simp; omega) (by simpa using hk)).trans ?_
      simp [mergeCell, wireCell]
  case extents =>
    intro sc e i
    simp only [inOwnExtents_iff, inExtent_iff]

/-! ### Cell steps (R55 to R59) -/

/-- R55: after its last step a long command is over; before, it goes on. -/
theorem stepLong_eq (e : Fin 4) (x : Executing) (last : Prop) [Decidable last] (c : LongCommand) (data : List Byte)
    (s : State) : stepLong e x last c data s =
      if last then carryOn e (x.after data) s else { s with engine := .executing { x with long := some c } } := by
  simp only [stepLong, decide_eq_true_eq]

section CellSteps

variable {s : State} {e : Fin 4} {x : Executing}

theorem cellStep_fill {start count : Nat} {mask : BitVec 4} {cell : Cell} {done : Nat}
    (h : s.inFlight e x (.fill start count mask cell done)) : cellStep s =
      stepLong e x (count ≤ done + 1) (.fill start count mask cell (done + 1)) [] (s.quiet.withCells
        (setCell s.cells (start + done) (mergeCell mask cell (cellAt s.cells (start + done))))) := by
  obtain ⟨hs, he, hp, hl⟩ := h
  simp [cellStep, ready_of_settled s hs, he, hp, hl, State.withCells]

theorem cellStep_copy {sb sp db dp width height done : Nat} (h : s.inFlight e x (.copy sb sp db dp width height done)) :
    cellStep s = stepLong e x (width * height ≤ done + 1) (.copy sb sp db dp width height (done + 1)) []
      (s.quiet.withCells (copyStep sb sp db dp width height done s.cells)) := by
  obtain ⟨hs, he, hp, hl⟩ := h
  simp [cellStep, ready_of_settled s hs, he, hp, hl, State.withCells]

theorem cellStep_find {start count : Nat} {pattern : Cell} {mask : BitVec 4} {done matched : Nat} {first : Option Nat}
    (h : s.inFlight e x (.find start count pattern mask done matched first)) : cellStep s =
      let hit := cellMatches mask pattern (cellAt s.cells (start + done))
      let matched' := if hit then matched + 1 else matched
      let first' := if hit = true ∧ first = none then some ((start + done) % 16384) else first
      stepLong e x (count ≤ done + 1) (.find start count pattern mask (done + 1) matched' first')
        (findData matched' first') s.quiet := by
  obtain ⟨hs, he, hp, hl⟩ := h
  simp [cellStep, ready_of_settled s hs, he, hp, hl, cellIndex, Config.cellCount]

end CellSteps

/-- R49: a cell matches exactly where it agrees with the pattern in every field named. -/
theorem cellMatches_iff (mask : BitVec 4) (pattern c : Cell) : cellMatches mask pattern c = true ↔
    (mask.getLsbD 0 = true → c.code = pattern.code) ∧ (mask.getLsbD 1 = true → c.fg = pattern.fg)
      ∧ (mask.getLsbD 2 = true → c.bg = pattern.bg) ∧ (mask.getLsbD 3 = true → c.flags = pattern.flags) := by
  have hfield (named : Bool) {n : Nat} (a b : BitVec n) :
      (!named || a == b) = true ↔ (named = true → a = b) := by cases named <;> simp
  simp only [cellMatches, Bool.and_eq_true, hfield, and_assoc]

/-- Settles O36: each step is one write behind the owed fetches, or one comparison. -/
theorem cellStepsTakeOneCellEach : Obligations.CellStepsTakeOneCellEach := by
  refine ⟨?fill, ?copy, ?find⟩
  case fill =>
    intro s e x start count mask cell done hfly ⟨hcells, _⟩
    refine ⟨_, withCells_eq _ _, fun i => ?cells, withCells_comp_of_none_owed (s := s.quiet) _,
      withCells_fetchesTaken s.quiet _, congrArg _ ((cellStep_fill hfly).trans (stepLong_eq _ _ _ _ _ _))⟩
    case cells =>
      exact (cellAt_setCell hcells _ i _).trans
        (ite_congr rfl (fun heq => congrArg (mergeCell mask cell) (cellAt_congr _ heq.symm)) fun _ => rfl)
  case copy =>
    intro s e x sb sp db dp width height done hfly ⟨hcells, _⟩
    exact ⟨_, withCells_eq _ _, fun i => cellAt_setCell hcells _ i _, withCells_comp_of_none_owed (s := s.quiet) _,
      withCells_fetchesTaken s.quiet _, congrArg _ ((cellStep_copy hfly).trans (stepLong_eq _ _ _ _ _ _))⟩
  case find =>
    intro s e x start count pattern mask done matched first hfly
    exact ⟨_, cellMatches_iff mask pattern _, congrArg _ ((cellStep_find hfly).trans (stepLong_eq _ _ _ _ _ _))⟩

end Sys2Proof.Machine

namespace Sys2Proof.Machine

/-! ### Glyph rows after a write (R65) -/

/-- R65: within their ranges bank, code and row make up a key of their own. -/
theorem glyphKey_inj {bank code row bank' code' row' : Nat} (hcode : code ≤ 255) (hcode' : code' ≤ 255)
    (hrow : row ≤ 31) (hrow' : row' ≤ 31) :
    glyphKey bank' code' row' = glyphKey bank code row ↔ bank' = bank ∧ code' = code ∧ row' = row := by
  unfold glyphKey
  omega

section GlyphWrites

variable {m : Store Word} {bank code : Nat}

/-- Reading a glyph row after a write, wherever it lies. -/
theorem glyphRow_setGlyphRow (hm : Store.wf (0 : Word) 65536 m) {row bank' code' row' : Nat} (w : Word)
    (hcode : code ≤ 255) (hcode' : code' ≤ 255) (hrow : row ≤ 31) (hrow' : row' ≤ 31) :
    glyphRow (setGlyphRow m bank code row w) bank' code' row' =
      if bank' = bank ∧ code' = code ∧ row' = row then w else glyphRow m bank' code' row' := by
  split
  · next heq =>
    obtain ⟨rfl, rfl, rfl⟩ := heq
    exact glyphRow_setGlyphRow_same m _ _ _ w hm
  · next hne =>
    exact glyphRow_setGlyphRow_other m bank code row bank' code' row' w
      (mt (glyphKey_inj hcode hcode' hrow hrow').1 hne)

/-- Clearing some rows of a glyph clears them and no other row. -/
theorem glyphRow_clearRows {bank' code' row' : Nat} (hbank : bank ≤ 7) (hcode : code ≤ 255) (hcode' : code' ≤ 255)
    (hrow' : row' ≤ 31) (rows : List Nat) : ∀ m : Store Word, Store.wf (0 : Word) 65536 m → (∀ r ∈ rows, r ≤ 31) →
    glyphRow (rows.foldl (fun m row => setGlyphRow m bank code row 0) m) bank' code' row' =
      if bank' = bank ∧ code' = code ∧ row' ∈ rows then 0 else glyphRow m bank' code' row' := by
  induction rows with
  | nil => simp
  | cons r rest ih =>
    intro m hm hrows
    obtain ⟨hr, hrest⟩ := List.forall_mem_cons.1 hrows
    rw [List.foldl_cons, ih _ (setGlyphRow_wf m bank code r 0 hbank hcode hr hm) hrest,
      glyphRow_setGlyphRow hm 0 hcode hcode' hr hrow']
    simp only [List.mem_cons]
    split_ifs <;> tauto

/-- R71: clearing a glyph clears every row of its code in its bank and no other glyph. -/
theorem glyphRow_clearGlyph (hm : Store.wf (0 : Word) 65536 m) {bank' code' row' : Nat} (hbank : bank ≤ 7)
    (hcode : code ≤ 255) (hcode' : code' ≤ 255) (hrow' : row' ≤ 31) :
    glyphRow (clearGlyph bank code m) bank' code' row' =
      if bank' = bank ∧ code' = code then 0 else glyphRow m bank' code' row' := by
  have hmem : row' ∈ List.range 32 := List.mem_range.2 (by omega)
  rw [clearGlyph, glyphRow_clearRows hbank hcode hcode' hrow' _ m hm fun r hr => by
    have := List.mem_range.1 hr
    omega]
  simp only [hmem, and_true]

/-- R69: a run writes no row outside its range. -/
theorem glyphRow_writeGlyphRun_outside (op : GlyphOp) (mask : Word) {bank' code' row' : Nat} (hcode : code ≤ 255)
    (hcode' : code' ≤ 255) (hrow' : row' ≤ 31) (data : List Word) : ∀ (first : Nat) (m : Store Word),
    first + data.length ≤ 32 →
    ¬ (bank' = bank ∧ code' = code ∧ first ≤ row' ∧ row' < first + data.length) →
    glyphRow (writeGlyphRun op mask bank code first data m) bank' code' row' = glyphRow m bank' code' row' := by
  induction data with
  | nil => exact fun _ _ _ _ => rfl
  | cons d rest ih =>
    intro first m hlen hout
    simp only [List.length_cons] at hlen hout
    rw [writeGlyphRun, ih _ _ (by omega) (by omega)]
    refine glyphRow_setGlyphRow_other m bank code first bank' code' row' _ fun hkey => ?_
    rw [glyphKey_inj hcode hcode' (by omega) hrow'] at hkey
    omega

/-- R69, R70: a run combines its `k`-th data row with the old row. -/
theorem glyphRow_writeGlyphRun (op : GlyphOp) (mask : Word) (hbank : bank ≤ 7) (hcode : code ≤ 255)
    (data : List Word) : ∀ (first k : Nat) (m : Store Word), Store.wf (0 : Word) 65536 m →
    first + data.length ≤ 32 → (hk : k < data.length) →
    glyphRow (writeGlyphRun op mask bank code first data m) bank code (first + k) =
      glyphMerge op mask (glyphRow m bank code (first + k)) data[k] := by
  induction data with
  | nil => exact fun _ _ _ _ _ hk => absurd hk (by simp)
  | cons d rest ih =>
    intro first k m hm hlen hk
    simp only [List.length_cons] at hlen hk
    cases k with
    | zero =>
      rw [writeGlyphRun, glyphRow_writeGlyphRun_outside op mask hcode hcode (by omega) rest _ _ (by omega) (by omega)]
      exact glyphRow_setGlyphRow_same m bank code first _ hm
    | succ k =>
      have hnext : first + (k + 1) = first + 1 + k := by omega
      rw [writeGlyphRun, hnext, ih _ _ _ (setGlyphRow_wf m bank code first _ hbank hcode (by omega) hm) (by omega)
          (by omega),
        glyphRow_setGlyphRow hm _ hcode hcode (by omega) (by omega), if_neg (by omega)]
      rfl

end GlyphWrites

/-- The Glyph Store takes these rows. -/
def State.withGlyphs (s : State) (glyphs : Store Word) : State := { s with glyphs := glyphs }

@[simp] theorem withGlyphs_glyphs (s : State) (glyphs : Store Word) : (s.withGlyphs glyphs).glyphs = glyphs := rfl

/-- Such a write changes the Glyph Store alone. -/
theorem withGlyphs_eq (s : State) (glyphs : Store Word) :
    s.withGlyphs glyphs = { s with glyphs := (s.withGlyphs glyphs).glyphs } := rfl

/-! ### Glyph steps (R71) -/

/-- R71: the step of a CLEAR BANK in flight. -/
theorem glyphStep_clearBank {s : State} {e : Fin 4} {x : Executing} {bank done : Nat}
    (h : s.inFlight e x (.clearBank bank done)) : glyphStep s =
      let b := s.quiet.withGlyphs (clearGlyph bank done s.glyphs)
      if done < 255 then { b with engine := .executing { x with long := some (.clearBank bank (done + 1)) } }
      else carryOn e (x.after []) b := by
  obtain ⟨hs, he, hp, hl⟩ := h
  have hlast : done + 1 < 256 ↔ done < 255 := by omega
  simp [glyphStep, ready_of_settled s hs, he, hp, hl, hlast, State.withGlyphs]

/-- With no long command in flight a glyph step and a cell step change nothing (log entry 3). -/
theorem longSteps_of_no_long {s : State} (hs : s.settled) (hnone : ∀ x, s.engine = .executing x → x.long = none) :
    glyphStep s = s.quiet ∧ cellStep s = s.quiet := by
  rw [glyphStep, cellStep, ready_of_settled s hs]
  cases he : s.engine with
  | executing x => simp [he, hnone x he]
  | _ => simp [he]

/-- Settles O37: a step clears the rows of one glyph, and no other glyph has a row at their keys. -/
theorem glyphStepClearsOneGlyph : Obligations.GlyphStepClearsOneGlyph := by
  refine ⟨?clears, ?idle⟩
  case clears =>
    intro s e x bank done hfly ⟨_, hglyphs⟩ hbank hdone
    refine ⟨s.quiet.withGlyphs (clearGlyph bank done s.glyphs), withGlyphs_eq _ _, ?rows,
      congrArg _ (glyphStep_clearBank hfly)⟩
    case rows =>
      intro bank' code row _ hcode hrow
      rw [withGlyphs_glyphs]
      exact glyphRow_clearGlyph hglyphs hbank hdone hcode hrow
  case idle =>
    intro s hs hnone
    obtain ⟨hglyph, hcell⟩ := longSteps_of_no_long hs hnone
    exact ⟨congrArg _ hglyph, congrArg _ hcell⟩

/-! ### Dots under the mask (R70, Table 19) -/

/-- R70: a dot that the mask names takes the operation's result, any other stays. -/
theorem glyphMerge_getLsbD (op : GlyphOp) (mask old data : Word) {dot : Nat} (hdot : dot ≤ 15) :
    (glyphMerge op mask old data).getLsbD dot =
      if mask.getLsbD dot = true then (glyphCombine op old data).getLsbD dot else old.getLsbD dot := by
  have hlt : dot < 16 := by omega
  simp only [glyphMerge, BitVec.getLsbD_or, BitVec.getLsbD_and, BitVec.getLsbD_not, hlt]
  cases mask.getLsbD dot <;> simp

theorem glyphOpOf_of_lt {b : Byte} (h : b.toNat < 4) : ∃ op, glyphOpOf b = some op := by
  have hcases : b = 0 ∨ b = 1 ∨ b = 2 ∨ b = 3 := by bv_omega
  rcases hcases with rfl | rfl | rfl | rfl <;> exact ⟨_, rfl⟩

/-- Table 19: what the operation byte makes of an old dot and a data dot. -/
theorem glyphCombine_getLsbD {b : Byte} {op : GlyphOp} (h : glyphOpOf b = some op) (old data : Word) (dot : Nat) :
    let new := (glyphCombine op old data).getLsbD dot
    (b = 0 → new = data.getLsbD dot) ∧ (b = 1 → new = (old.getLsbD dot && data.getLsbD dot))
      ∧ (b = 2 → new = (old.getLsbD dot || data.getLsbD dot))
      ∧ (b = 3 → new = (old.getLsbD dot ^^ data.getLsbD dot)) := by
  refine ⟨?replace, ?and, ?or, ?xor⟩ <;> (rintro rfl; cases h)
  case replace => rfl
  case and => exact BitVec.getLsbD_and
  case or => exact BitVec.getLsbD_or
  case xor => exact BitVec.getLsbD_xor

/-! ### WRITE GLYPH ROWS on operands that pass check 2 (R69) -/

/-- R69: the `k`-th glyph row of a list of operand bytes. -/
def wireRow (list : List Byte) (k : Nat) : Word := list.getD (2 * k) 0 ++ list.getD (2 * k + 1) 0

theorem wireRow_succ (hi lo : Byte) (rest : List Byte) (k : Nat) :
    wireRow (hi :: lo :: rest) (k + 1) = wireRow rest k := by
  simp only [wireRow, Nat.mul_succ, Nat.add_right_comm _ 2, List.getD_cons_succ]

theorem glyphRowsOf_of_length : ∀ (n : Nat) (list : List Byte), list.length = 2 * n →
    glyphRowsOf list = some ((List.range n).map (wireRow list))
  | 0, [], _ => rfl
  | n + 1, hi :: lo :: rest, hlen => by
    have hrest := glyphRowsOf_of_length n rest (by simp only [List.length_cons] at hlen; omega)
    simp only [glyphRowsOf, hrest, List.range_succ_eq_map, List.map_cons, List.map_map]
    simp only [Function.comp_def, Nat.succ_eq_add_one, wireRow_succ]
    rfl

/-- Check 2 of WRITE GLYPH ROWS (R69). -/
theorem operandsInRange_writeGlyphRows (bank code first count op mh ml : Byte) (rows : List Byte) :
    operandsInRange .writeGlyphRows (bank :: code :: first :: count :: op :: mh :: ml :: rows)
      = (decide (bank.toNat < 8) && decide (first.toNat < 32) && decide (0 < count.toNat) && decide (count.toNat < 33)
        && decide (first.toNat + count.toNat < 33) && decide (op.toNat < 4) && rows.length == 2 * count.toNat) := rfl

/-- R69: on operands that pass check 2 the rows are one run, within the glyph, for the CONTROL session. -/
theorem writeGlyphRows_of_inRange {s : State} {e : Fin 4} {x : Executing} {bank code first count op mh ml : Byte}
    {rows : List Byte}
    (h : operandsInRange .writeGlyphRows (bank :: code :: first :: count :: op :: mh :: ml :: rows) = true) :
    bank.toNat ≤ 7 ∧ first.toNat + count.toNat ≤ 32 ∧ ∃ f, glyphOpOf op = some f
      ∧ writeGlyphRows e x (bank :: code :: first :: count :: op :: mh :: ml :: rows) s =
        controlOnly e s (.done (s.withGlyphs (writeGlyphRun f (mh ++ ml) bank.toNat code.toNat first.toNat
          ((List.range count.toNat).map (wireRow rows)) s.glyphs)) []) := by
  simp only [operandsInRange_writeGlyphRows, Bool.and_eq_true, decide_eq_true_eq, beq_iff_eq] at h
  obtain ⟨⟨⟨⟨⟨⟨hbank, hfirst⟩, hlow⟩, hhigh⟩, hend⟩, hop⟩, hlen⟩ := h
  obtain ⟨f, hf⟩ := glyphOpOf_of_lt hop
  refine ⟨by omega, by omega, f, hf, ?_⟩
  simp only [writeGlyphRows, hf, glyphRowsOf_of_length _ rows hlen, List.length_map, List.length_range,
    and_true]
  exact if_pos (by omega)

/-- Settles O52: the run merges each of its rows under the mask, dot by dot, and writes no other row. -/
theorem glyphRowsCombineDotByDot : Obligations.GlyphRowsCombineDotByDot := by
  intro s e x bank code first count op mh ml rows hat hin hrole ⟨_, hglyphs⟩
  obtain ⟨hbank, hend, f, hf, hwrite⟩ := writeGlyphRows_of_inRange (e := e) (x := x) (s := s.quiet) hin
  have hcode : code.toNat ≤ 255 := by have := code.isLt; omega
  refine ⟨_, exec_of_verdict hat rfl (hwrite.trans (controlOnly_of_control e s.quiet _ hrole)), withGlyphs_eq _ _, ?_⟩
  intro bank' code' row dot _ hcode' hrow hdot old new k data inRun
  have hmerged (hrun : inRun) : new = if (mh ++ ml : Word).getLsbD dot = true then
      (glyphCombine f (glyphRow s.glyphs bank' code' row) (wireRow rows k)).getLsbD dot else old := by
    obtain ⟨rfl, rfl, hfrom, hto⟩ := hrun
    have hk : k < ((List.range count.toNat).map (wireRow rows)).length := by
      simp only [List.length_map, List.length_range]
      omega
    have hplace : first.toNat + k = row := Nat.add_sub_cancel' hfrom
    have hrow' := glyphRow_writeGlyphRun f (mh ++ ml) hbank hcode _ first.toNat k _ hglyphs (by simpa using hend) hk
    rw [hplace, List.getElem_map, List.getElem_range] at hrow'
    exact (congrArg (BitVec.getLsbD · dot) hrow').trans (glyphMerge_getLsbD f _ _ _ hdot)
  refine ⟨fun hrun hmask => ?named, fun hrun hmask => ?unnamed, fun hout => ?outside⟩
  case named =>
    rw [hmerged hrun, if_pos hmask]
    exact glyphCombine_getLsbD hf _ _ dot
  case unnamed => rw [hmerged hrun, if_neg (by simp [hmask])]
  case outside =>
    refine congrArg (BitVec.getLsbD · dot)
      (glyphRow_writeGlyphRun_outside f _ hcode hcode' hrow _ _ _ (by simpa using hend) ?_)
    simpa [inRun] using hout

end Sys2Proof.Machine

namespace Sys2Proof.Machine

/-! ### A run of new entries in a table (R85, R86) -/

/-- An overlaid table holds the list in its run and the old table everywhere else. -/
theorem overlay_getElem_run {α : Type} {n : Nat} (first : Nat) (xs : List α) (v : Vector α n) (i : Fin n) (d : α) :
    (overlay first xs v)[i] =
      if first ≤ i.1 ∧ i.1 < first + xs.length then xs.getD (i.1 - first) d else v[i] := by
  rw [overlay_getElem]
  by_cases hfirst : first ≤ i.1
  · by_cases hend : i.1 < first + xs.length
    · have hin : i.1 - first < xs.length := by omega
      simp [hfirst, hend, hin]
    · have hout : xs.length ≤ i.1 - first := by omega
      simp [hend, hout]
  · simp [hfirst]

/-- Of four palettes with one overlaid, an entry is new where it is in that palette's run. -/
theorem overlay_palette_getElem (palettes : Vector (Vector Byte 16) 4) (p q : Fin 4) (first : Nat) (indices : List Byte)
    (k : Fin 16) : ((palettes.set q (overlay first indices palettes[q]))[p])[k] =
      if p.1 = q.1 ∧ first ≤ k.1 ∧ k.1 < first + indices.length then indices.getD (k.1 - first) 0
      else (palettes[p])[k] := by
  by_cases hpq : p = q
  · subst hpq
    simpa using overlay_getElem_run first indices palettes[p] k 0
  · have hne : p.1 ≠ q.1 := fun h => hpq (Fin.ext h)
    simp [Vector.getElem_set_ne, hne, hne.symm]

/-! ### The colour commands on operands that pass check 2 (R85, R86, R87) -/

/-- R86: the `k`-th entry of a list of four-byte colour entries. -/
def wireColour (list : List Byte) (k : Nat) : ColourEntry :=
  ⟨⟨list.getD (4 * k) 0, list.getD (4 * k + 1) 0, list.getD (4 * k + 2) 0⟩, (list.getD (4 * k + 3) 0).toNat⟩

theorem wireColour_succ (r g b c : Byte) (rest : List Byte) (k : Nat) :
    wireColour (r :: g :: b :: c :: rest) (k + 1) = wireColour rest k := by
  simp only [wireColour, Nat.mul_succ, Nat.add_right_comm _ 4, List.getD_cons_succ]

theorem colourEntriesOf_of_inRange : ∀ (n : Nat) (list : List Byte), list.length = 4 * n →
    (∀ k, k < n → (list.getD (4 * k + 3) 0).toNat < 9) →
    colourEntriesOf list = some ((List.range n).map (wireColour list))
  | 0, [], _, _ => rfl
  | n + 1, r :: g :: b :: c :: rest, hlen, hcoverage => by
    have hrest := colourEntriesOf_of_inRange n rest (by simp only [List.length_cons] at hlen; omega)
      fun k hk => hcoverage (k + 1) (by omega)
    have hhead : c.toNat ≤ 8 := Nat.le_of_lt_succ (hcoverage 0 (by omega))
    simp only [colourEntriesOf, if_pos hhead, hrest, List.range_succ_eq_map, List.map_cons, List.map_map]
    simp only [Function.comp_def, Nat.succ_eq_add_one, wireColour_succ]
    rfl

/-- The colour table overlaid with `n` entries of a list has them in their run and the old entries everywhere else. -/
theorem overlay_colours_getElem (colours : Vector ColourEntry 256) (first n : Nat) (list : List Byte) (i : Fin 256) :
    (overlay first ((List.range n).map (wireColour list)) colours)[i] =
      if first ≤ i.1 ∧ i.1 < first + n then wireColour list (i.1 - first) else colours[i] := by
  have hentry : (List.range n).getD (i.1 - first) (i.1 - first) = i.1 - first := by
    by_cases hin : i.1 - first < n
    · simp [hin]
    · simp [Nat.le_of_not_lt hin]
  rw [overlay_getElem_run first _ colours i (wireColour list (i.1 - first)), List.getD_map, hentry, List.length_map,
    List.length_range]

/-- Check 2 of SET PALETTE (R85). -/
theorem operandsInRange_setPalette (b first : Byte) (indices : List Byte) :
    operandsInRange .setPalette (b :: first :: indices)
      = (decide (b.toNat < 4) && decide (first.toNat < 16) && decide (0 < indices.length)
        && decide (first.toNat + indices.length < 17)) := rfl

/-- Check 2 of SET COLOURS (R86). -/
theorem operandsInRange_setColours (first : Byte) (list : List Byte) :
    operandsInRange .setColours (first :: list)
      = (list.length % 4 == 0 && decide (0 < list.length) && decide (list.length < 233)
        && decide (first.toNat + list.length / 4 < 257)
        && (List.range (list.length / 4)).all fun k => (list.getD (4 * k + 3) 0).toNat < 9) := rfl

/-- Check 2 of SET OPTIONS (R87). -/
theorem operandsInRange_setOptions (period mask r g b : Byte) :
    operandsInRange .setOptions [period, mask, r, g, b]
      = (decide (1 < period.toNat) && decide (period.toNat < 121)) := rfl

/-- The staged scene in place of the one that stands, past checks 3 and 6. -/
def stagedWrite (e : Fin 4) (s : State) (sc : Scene) : Verdict :=
  controlOnly e s (unsealed s (.done (s.setStaged sc) []))

section ColourCommands

variable {s : State} {e : Fin 4} {x : Executing}

/-- Where the CONTROL session finds staging open, a row whose command ends in a staged write makes the write. -/
theorem exec_stagedWrite {i : Instr} {code : Byte} {f : Fin 4 → Executing → List Byte → State → Verdict}
    {ops : List Byte} {sc : Scene} (hrole : (s.session e).role = .control) (hopen : s.scene.commit.pending = false)
    (hat : s.standsAt code e x ops) (hrow : exec i s = .next (runCommand code f s))
    (hf : f e x ops s.quiet = stagedWrite e s.quiet sc) :
    exec i s = .next (carryOn e (x.after []) (s.quiet.setStaged sc)) := by
  have hpasses : stagedWrite e s.quiet sc = .done (s.quiet.setStaged sc) [] :=
    (controlOnly_of_control e s.quiet _ hrole).trans (unsealed_of_open s.quiet _ hopen)
  exact exec_of_verdict hat hrow (hf.trans hpasses)

theorem setPalette_of_inRange {b first : Byte} {indices : List Byte}
    (h : operandsInRange .setPalette (b :: first :: indices) = true) :
    ∃ q : Fin 4, q.1 = b.toNat ∧ setPalette e x (b :: first :: indices) s = stagedWrite e s { s.scene.staged with
      palettes := s.scene.staged.palettes.set q (overlay first.toNat indices s.scene.staged.palettes[q]) } := by
  simp only [operandsInRange_setPalette, Bool.and_eq_true, decide_eq_true_eq] at h
  obtain ⟨⟨⟨hb, hfirst⟩, hsome⟩, hend⟩ := h
  refine ⟨⟨b.toNat, hb⟩, rfl, ?_⟩
  simp only [setPalette, paletteOf_of_toNat (p := ⟨b.toNat, hb⟩) rfl]
  exact if_pos (by omega)

theorem setColours_of_inRange {first : Byte} {list : List Byte}
    (h : operandsInRange .setColours (first :: list) = true) :
    setColours e x (first :: list) s = stagedWrite e s { s.scene.staged with
      colours := overlay first.toNat ((List.range (list.length / 4)).map (wireColour list))
        s.scene.staged.colours } := by
  simp only [operandsInRange_setColours, Bool.and_eq_true, decide_eq_true_eq, beq_iff_eq, List.all_eq_true,
    List.mem_range] at h
  obtain ⟨⟨⟨⟨hlen, hsome⟩, hmost⟩, hend⟩, hcoverage⟩ := h
  simp only [setColours, colourEntriesOf_of_inRange (list.length / 4) list (by omega) hcoverage, List.length_map,
    List.length_range]
  exact if_pos (by omega)

theorem setOptions_of_inRange {period mask r g b : Byte}
    (h : operandsInRange .setOptions [period, mask, r, g, b] = true) :
    setOptions e x [period, mask, r, g, b] s = stagedWrite e s { s.scene.staged with
      blinkPeriod := period.toNat, indexMask := mask, fill := ⟨r, g, b⟩ } := by
  simp only [operandsInRange_setOptions, Bool.and_eq_true, decide_eq_true_eq] at h
  exact if_pos (by omega)

end ColourCommands

/-- Settles O53: each command is one staged write, whose tables are overlaid with the operands' run. -/
theorem colourCommandsWriteStaging : Obligations.ColourCommandsWriteStaging := by
  intro s e x hrole hopen stands
  refine ⟨?palette, ?colours, ?options⟩
  case palette =>
    rintro b first indices ⟨hat, hin⟩
    obtain ⟨q, hq, hwrite⟩ := setPalette_of_inRange (e := e) (x := x) (s := s.quiet) hin
    refine ⟨_, exec_stagedWrite hrole hopen hat rfl hwrite, rfl, fun p k => ?_⟩
    rw [← hq]
    exact overlay_palette_getElem s.scene.staged.palettes p q first.toNat indices k
  case colours =>
    rintro first list ⟨hat, hin⟩
    refine ⟨_, exec_stagedWrite hrole hopen hat rfl (setColours_of_inRange hin), rfl, fun i => ?_⟩
    exact overlay_colours_getElem s.scene.staged.colours first.toNat (list.length / 4) list i
  case options =>
    rintro period mask r g b ⟨hat, hin⟩
    exact exec_stagedWrite hrole hopen hat rfl (setOptions_of_inRange hin)

end Sys2Proof.Machine

namespace Sys2Proof.Machine

/-! ### The blink comparison (R95, R96) -/

theorem exec_blinkToggle (s : State) : exec .blinkToggle s = .next (blinkCompare (finishScene s.quiet)) := rfl

theorem blinkCompare_of_lt {s : State} (h : s.comp.blinkCounter < s.scene.live.blinkPeriod) : blinkCompare s = s :=
  if_pos h

theorem blinkCompare_of_le {s : State} (h : s.scene.live.blinkPeriod ≤ s.comp.blinkCounter) :
    blinkCompare s = { s with comp := { s.comp with blinkCounter := 0, blinkOn := !s.comp.blinkOn } } :=
  if_neg (Nat.not_lt.2 h)

/-- Once taken, the stages of the Scene Store are not taken again. -/
theorem finishScene_quiet_finishScene (s : State) :
    finishScene (finishScene s.quiet).quiet = finishScene s.quiet := by
  rw [quiet_of_linkOut (finishScene s.quiet) (by simp), finishScene_settled _ (finishScene_stage _)]

/-- Settles O31. -/
theorem blinkTogglesAtThePeriod : Obligations.BlinkTogglesAtThePeriod := by
  intro s
  refine ⟨fun u _ hu => ?staged, fun hstage hbelow => ?below, fun hstage hreached => ?reached⟩
  case staged =>
    rw [exec_applyCommit] at hu
    cases hu
    rw [exec_blinkToggle, exec_blinkToggle, finishScene_quiet_finishScene]
  case below =>
    rw [exec_blinkToggle, finishScene_settled s.quiet hstage, blinkCompare_of_lt (s := s.quiet) hbelow]
  case reached =>
    rw [exec_blinkToggle, finishScene_settled s.quiet hstage, blinkCompare_of_le (s := s.quiet) hreached]
    rfl

end Sys2Proof.Machine

namespace Sys2Proof.Machine

/-! ### The row fetches a line owes (R98, R101) -/

theorem takeFetch_of_window {s : State} {k : Fin 8} {r : WindowRecord} (f : RowState)
    (h : s.scene.live.windows[k] = some r) : takeFetch (k, f) s = { s with comp := { s.comp with
      caches := s.comp.caches.set k (rowCells s.cells r.columns f.first), rows := s.comp.rows.set k (some f) } } := by
  simp only [takeFetch, h]

theorem rowCells_getElem? (m : Store Cell) (first : Nat) {columns i : Nat} (h : i < columns) :
    (rowCells m columns first)[i]? = some ⟨cellAt m (first + i), (first + i) % 16384⟩ := by
  simp [rowCells, h, cellIndex, Config.cellCount]

@[simp] theorem length_rowCells (m : Store Cell) (columns first : Nat) :
    (rowCells m columns first).length = columns := by simp [rowCells]

theorem fetchAll_of_none_owed {s : State} (h : s.comp.owed = []) : fetchAll s = s := by
  have hsame : { s with comp := { s.comp with owed := [] } } = s := by rw [← h]
  simp only [fetchAll, h, List.foldl_nil, hsame]

theorem fetchAll_of_one_owed {s : State} {f : Fin 8 × RowState} (h : s.comp.owed = [f]) :
    fetchAll s = takeFetch f { s with comp := { s.comp with owed := [] } } := by
  simp only [fetchAll, h, List.foldl_cons, List.foldl_nil]

theorem fetchAll_comp_frame (s : State) : (fetchAll s).comp.frame = s.comp.frame := by
  refine foldl_keeps (fun t : State => t.comp.frame) (fun t f => takeFetch f t) (fun t f => ?_) _ _
  unfold takeFetch
  split <;> rfl

/-! ### What the picture of a pixel is formed from (R109) -/

/-- Between `s` and `t` only the link side, the engine and the queues moved: what pixels are formed from stands. -/
structure PictureKept (s t : State) : Prop where
  comp : t.comp = s.comp
  scene : t.scene = s.scene
  cells : t.cells = s.cells
  glyphs : t.glyphs = s.glyphs
  sessions : t.sessions = s.sessions

section Picture

variable {s t u : State}

theorem PictureKept.trans (h : PictureKept s t) (g : PictureKept t u) : PictureKept s u :=
  ⟨g.comp.trans h.comp, g.scene.trans h.scene, g.cells.trans h.cells, g.glyphs.trans h.glyphs,
    g.sessions.trans h.sessions⟩

theorem quiet_pictureKept (s : State) : PictureKept s s.quiet := ⟨rfl, rfl, rfl, rfl, rfl⟩

theorem draw_pictureKept (s : State) : PictureKept s s.draw.2 := ⟨rfl, rfl, rfl, rfl, rfl⟩

theorem closeGap_pictureKept (s : State) : PictureKept s (closeGap s) := by
  constructor <;> simp

theorem putSymbol_pictureKept (sym : Symbol) (s : State) : PictureKept s (putSymbol sym s) := by
  constructor <;> simp

theorem PictureKept.withComp (h : PictureKept s t) {comp comp' : Compositor} (hcomp : comp' = comp) :
    PictureKept { s with comp := comp } { t with comp := comp' } :=
  ⟨hcomp, h.scene, h.cells, h.glyphs, h.sessions⟩

theorem PictureKept.takeFetch (h : PictureKept s t) (f : Fin 8 × RowState) :
    PictureKept (takeFetch f s) (takeFetch f t) := by
  unfold Machine.takeFetch
  rw [h.scene, h.comp, h.cells]
  split
  · exact ⟨rfl, rfl, rfl, h.glyphs, h.sessions⟩
  · exact h

theorem PictureKept.fetchAll (h : PictureKept s t) : PictureKept (fetchAll s) (fetchAll t) := by
  have hfold (l : List (Fin 8 × RowState)) : ∀ {s t : State}, PictureKept s t →
      PictureKept (l.foldl (fun s f => Machine.takeFetch f s) s) (l.foldl (fun s f => Machine.takeFetch f s) t) := by
    induction l with
    | nil => exact id
    | cons f rest ih => exact fun h => ih (h.takeFetch f)
  unfold Machine.fetchAll
  rw [h.comp]
  exact hfold s.comp.owed (h.withComp rfl)

theorem PictureKept.mixPixel (h : PictureKept s t) (x y : Nat) (original : RGB) :
    mixPixel t x y original = mixPixel s x y original := by
  have hwindow (k : Fin 8) (m : Mixing) : mixWindow t x y original k m = mixWindow s x y original k m := by
    unfold mixWindow
    rw [h.scene, h.comp, h.glyphs]
  unfold Machine.mixPixel
  simp only [hwindow, h.scene, h.comp]

theorem PictureKept.composePixel_result (h : PictureKept s t) (x y : Nat) (original : RGB) :
    (composePixel x y original t).1 = (composePixel x y original s).1 :=
  congrArg Mixing.result (h.fetchAll.mixPixel x y original)

theorem PictureKept.composePixel (h : PictureKept s t) (x y : Nat) (original : RGB) :
    PictureKept (composePixel x y original s).2 (composePixel x y original t).2 :=
  h.fetchAll.withComp (by rw [h.fetchAll.comp, h.fetchAll.mixPixel])

end Picture

/-! ### A pixel that the receiver takes in LOCKED (R114, R119) -/

/-- The symbol is no framing error: the frame in hand is checked no more, or the symbol fits the locked geometry. -/
def Receiver.accepts (rx : Receiver) (sym : Symbol) : Prop :=
  rx.frame.clean = true → ∀ g, rx.geometry = some g → framingFault g rx.frame.pos sym = false

/-- The receiver behind a symbol that it takes in its place. -/
def Receiver.after (sym : Symbol) (rx : Receiver) : Receiver :=
  { rx with frame := { rx.frame with pos := rx.frame.pos.step sym }, gapPackets := 0 }

theorem accepts_of_damaged {rx : Receiver} (sym : Symbol) (h : rx.frame.damaged = true) : rx.accepts sym := by
  simp [Receiver.accepts, LockedFrame.clean, h]

/-- Table 34: a pixel in its place on an active line is no framing error. -/
theorem accepts_px {rx : Receiver} {g : Geometry} {next n x : Nat} (hg : rx.geometry = some g)
    (hpos : rx.frame.pos = .inFrame next (some ⟨n, x⟩)) (hactive : g.active n = true) (hx : x < g.w) (c : RGB) :
    rx.accepts (.px c) := by
  intro _ g' hg'
  obtain rfl : g = g' := Option.some.inj (hg.symm.trans hg')
  simp [hpos, framingFault, hactive, hx]

theorem lockedSymbol_of_accepts {s : State} {sym : Symbol} (hlock : s.rx.lock = .locked) (h : s.rx.accepts sym) :
    lockedSymbol sym s = lockedStep s.rx.frame.clean sym s := by
  unfold lockedSymbol
  dsimp only
  cases hclean : s.rx.frame.clean with
  | false => simp [hlock]
  | true =>
    cases hg : s.rx.geometry with
    | none => simp [hlock]
    | some g => simp [hlock, h hclean g hg]

theorem receiveSymbol_of_locked {s : State} (sym : Symbol) (hlock : s.rx.lock = .locked) :
    receiveSymbol sym s = lockedSymbol sym { s with rx := { s.rx with gapPackets := 0 } } := by
  unfold receiveSymbol
  dsimp only
  rw [hlock]

theorem receiveSymbol_px {s : State} {c : RGB} (hlock : s.rx.lock = .locked) (h : s.rx.accepts (.px c)) :
    receiveSymbol (.px c) s = { s with rx := s.rx.after (.px c) } := by
  rw [receiveSymbol_of_locked (.px c) hlock]
  exact lockedSymbol_of_accepts (s := { s with rx := { s.rx with gapPackets := 0 } }) hlock h

/-! ### The output of a symbol (R134) -/

@[simp] theorem closeGap_mode (s : State) : (closeGap s).tx.mode = s.tx.mode := by
  unfold closeGap wakeEngine
  dsimp only
  repeat' split
  all_goals rfl

@[simp] theorem putSymbol_mode (sym : Symbol) (s : State) : (putSymbol sym s).tx.mode = s.tx.mode := by
  unfold putSymbol
  dsimp only
  repeat' split
  all_goals simp

@[simp] theorem putSymbol_linkOut (sym : Symbol) (s : State) : (putSymbol sym s).linkOut = s.linkOut ++ [sym] := by
  unfold putSymbol
  dsimp only
  repeat' split
  all_goals simp

theorem nothingOwed_of_settled {s : State} (h : s.settled) : s.nothingOwed := by
  obtain ⟨hstage, hends, hexpired, -⟩ := h
  exact ⟨hstage, hends, hexpired⟩

/-- Between `s` and `t` the picture and the output mode are kept, and the receiver becomes `rx`. -/
structure Received (rx : Receiver) (s t : State) : Prop extends PictureKept s t where
  rx : t.rx = rx
  mode : t.tx.mode = s.tx.mode

theorem received_withRx (rx : Receiver) (s : State) : Received rx s { s with rx := rx } :=
  ⟨⟨rfl, rfl, rfl, rfl, rfl⟩, rfl, rfl⟩

theorem Received.closeGap {rx : Receiver} {s t : State} (h : Received rx s t) : Received rx s (closeGap t) :=
  ⟨h.toPictureKept.trans (closeGap_pictureKept t), by simp [h.rx], by simp [h.mode]⟩

theorem Received.of_pictureKept {rx : Receiver} {s u t : State} (h : Received rx u t) (hkept : PictureKept s u)
    (hmode : u.tx.mode = s.tx.mode) : Received rx s t :=
  ⟨hkept.trans h.toPictureKept, h.rx, h.mode.trans hmode⟩

theorem Received.putSymbol {rx : Receiver} {s t : State} (h : Received rx s t) (sym : Symbol) :
    Received rx s (putSymbol sym t) :=
  ⟨h.toPictureKept.trans (putSymbol_pictureKept sym t), by simp [h.rx], by simp [h.mode]⟩

/-- A symbol that only the receiver takes note of, and the close of the gap before it, in either order (R137). -/
theorem orderedClose_received {s : State} {rx : Receiver} {act : State → State}
    (hact : ∀ u, u.rx = s.rx → act u = { u with rx := rx }) (howed : s.nothingOwed) :
    Received rx s (orderedClose act s) := by
  have hgapFirst (u : State) (hu : u.rx = s.rx) : Received rx u (act (closeGap u)) := by
    rw [hact (closeGap u) (by simp [hu])]
    exact (received_withRx rx _).of_pictureKept (closeGap_pictureKept u) (closeGap_mode u)
  unfold orderedClose
  dsimp only
  split
  · split_ifs
    · rw [hact s.draw.2 rfl, settleSome_of_nothingOwed (by exact howed)]
      exact ((received_withRx rx s.draw.2).of_pictureKept (draw_pictureKept s) rfl).closeGap
    · exact (hgapFirst s.draw.2 rfl).of_pictureKept (draw_pictureKept s) rfl
    · exact hgapFirst s rfl
  · rw [hact s rfl]
    exact received_withRx rx s

/-! ### The row of a pixel in COMPOSE (R109, R133) -/

theorem exec_pixel (c : RGB) (s : State) : exec (.pixel c) s = .next (inputSymbol (.px c) s) := rfl

theorem drawnAt_of_not_drawing {s : State} (before : FramePos) (h : s.comp.frame ≠ .drawing) :
    drawnAt before s = none := by
  unfold drawnAt
  split
  · exact absurd ‹_› h
  · rfl

theorem drawnAt_of_drawing {s : State} {g : Geometry} {next n x : Nat} (hlock : s.rx.lock = .locked)
    (hframe : s.comp.frame = .drawing) (hg : s.comp.geometry = some g) (hactive : g.active n = true) :
    drawnAt (.inFrame next (some ⟨n, x⟩)) s = some (x, n - g.l0) := by
  simp [drawnAt, hlock, hframe, hg, hactive]

section PixelRow

variable {s : State} {g : Geometry} {c : RGB}

/-- The receiver takes the pixel and the gap before it closes; then it is output (R132, R133). -/
theorem exec_pixel_received (hs : s.composing g) (h : s.rx.accepts (.px c)) :
    ∃ u, Received (s.rx.after (.px c)) s u ∧ exec (.pixel c) s = .next (passSymbol s.rx.frame.pos (.px c) u) := by
  obtain ⟨hsettled, hlock, -, hmode⟩ := hs
  have hreceived : Received (s.rx.after (.px c)) s.quiet (orderedClose (receiveSymbol (.px c)) s.quiet) :=
    orderedClose_received (fun u hu => by rw [receiveSymbol_px (hu ▸ hlock) (hu ▸ h), hu]; rfl)
      (nothingOwed_of_settled hsettled)
  refine ⟨_, hreceived.of_pictureKept (quiet_pictureKept s) rfl, ?_⟩
  rw [exec_pixel]
  simp only [inputSymbol, ready_of_settled s hsettled, quiet_tx, hmode, quiet_rx]

/-- A pixel of a frame that is not being drawn is output as it came (R109, R133). -/
theorem exec_pixel_undrawn (hs : s.composing g) (h : s.rx.accepts (.px c)) (hframe : s.comp.frame ≠ .drawing) :
    ∃ t, exec (.pixel c) s = .next t ∧ t.linkOut.getLast? = some (.px c) ∧ Received (s.rx.after (.px c)) s t := by
  obtain ⟨u, hu, hexec⟩ := exec_pixel_received hs h
  have hpass : passSymbol s.rx.frame.pos (.px c) u = putSymbol (.px c) u := by
    simp only [passSymbol, drawnAt_of_not_drawing _ (hu.comp ▸ hframe)]
  rw [hpass] at hexec
  exact ⟨_, hexec, by simp, hu.putSymbol _⟩

/-- A pixel of an active line of a frame being drawn is output as the Compositor forms it (R101, R109, R133). -/
theorem exec_pixel_drawn {next n x : Nat} (hs : s.composing g) (h : s.rx.accepts (.px c))
    (hframe : s.comp.frame = .drawing) (hg : s.comp.geometry = some g)
    (hpos : s.rx.frame.pos = .inFrame next (some ⟨n, x⟩)) (hactive : g.active n = true) :
    let composed := composePixel x (n - g.l0) c s
    ∃ t, exec (.pixel c) s = .next t ∧ t.linkOut.getLast? = some (.px composed.1)
      ∧ PictureKept composed.2 t ∧ t.rx = s.rx.after (.px c) ∧ t.tx.mode = .compose := by
  obtain ⟨u, hu, hexec⟩ := exec_pixel_received hs h
  obtain ⟨-, hlock, -, hcompose⟩ := hs
  have hdrawn : drawnAt s.rx.frame.pos u = some (x, n - g.l0) := by
    rw [hpos]
    exact drawnAt_of_drawing (by rw [hu.rx]; exact hlock) (hu.comp ▸ hframe) (hu.comp ▸ hg) hactive
  have hpass : passSymbol s.rx.frame.pos (.px c) u =
      putSymbol (.px (composePixel x (n - g.l0) c u).1) (composePixel x (n - g.l0) c u).2 := by
    simp only [passSymbol, hdrawn]
  rw [hpass, hu.composePixel_result] at hexec
  refine ⟨_, hexec, by simp, (hu.composePixel x (n - g.l0) c).trans (putSymbol_pictureKept _ _), ?_, ?_⟩
  · simp [composePixel, hu.rx]
  · simp [composePixel, hu.mode, hcompose]

end PixelRow

end Sys2Proof.Machine

namespace Sys2Proof.Machine

/-! ### Pixels of a frame being drawn (R93, R101) -/

theorem active_of_le_of_lt {g : Geometry} {n : Nat} (h : g.l0 ≤ n) (h' : n < g.l0 + g.h) : g.active n = true := by
  simp [Geometry.active, h, h']

/-- In its place on an active line a pixel is accepted, whether or not the frame is damaged. -/
theorem accepts_activePixel {s : State} {g : Geometry} {next n x : Nat} {damaged : Bool} (hs : s.composing g)
    (hpos : s.rx.frame = ⟨true, .inFrame next (some ⟨n, x⟩), damaged⟩) (hactive : g.active n = true) (hx : x < g.w)
    (c : RGB) : s.rx.accepts (.px c) := by
  obtain ⟨-, -, hgeometry, -⟩ := hs
  exact accepts_px (next := next) hgeometry (by rw [hpos]) hactive hx c

theorem exec_pixel_drawing {s : State} {g : Geometry} {x y : Nat} (h : s.drawing g x y) (c : RGB) :
    ∃ t, exec (.pixel c) s = .next t ∧ t.linkOut.getLast? = some (.px (composePixel x y c s).1)
      ∧ PictureKept (composePixel x y c s).2 t := by
  obtain ⟨hs, hframe, hg, ⟨next, hpos⟩, hy, hx⟩ := h
  have hactive : g.active (g.l0 + y) = true := active_of_le_of_lt (Nat.le_add_right _ _) (Nat.add_lt_add_left hy _)
  obtain ⟨t, hexec, hout, hkept, -, -⟩ := exec_pixel_drawn (next := next) hs
    (accepts_activePixel hs hpos hactive hx c) hframe hg (by rw [hpos]) hactive
  rw [Nat.add_sub_cancel_left] at hout hkept
  exact ⟨t, hexec, hout, hkept⟩

/-- Settles O11: the one owed fetch is taken before the windows are mixed. -/
theorem rowFetchCopiesTheRow : Obligations.RowFetchCopiesTheRow := by
  intro s g x y c k f r hdrawing howed hr
  obtain ⟨t, hexec, -, ⟨hcomp, hscene, hcells, hglyphs, hsessions⟩⟩ := exec_pixel_drawing hdrawing c
  have hfetched : fetchAll s = { s with comp := { s.comp with
      owed := [], caches := s.comp.caches.set k (rowCells s.cells r.columns f.first)
      rows := s.comp.rows.set k (some f) } } := by
    rw [fetchAll_of_one_owed howed]
    exact takeFetch_of_window (s := { s with comp := { s.comp with owed := [] } }) f hr
  simp only [composePixel, hfetched] at hcomp hscene hcells hglyphs hsessions
  refine ⟨t, hexec, by rw [hcomp], by rw [hcomp], fun a ha => ?other, ?length, fun i hi => ?cell, hcells, hglyphs,
    hscene, hsessions⟩
  case other =>
    have hne : k.1 ≠ a.1 := fun h => ha (Fin.ext h.symm)
    simp [hcomp, hne]
  case length => simp [hcomp]
  case cell => simp [hcomp, rowCells_getElem? s.cells f.first hi]

/-! ### The key (R83) -/

theorem keyComponent_iff (original key mask : Byte) : keyComponent original key mask = true ↔
    ∀ i : Fin 8, mask.getLsbD i = true → original.getLsbD i = key.getLsbD i := by
  rw [keyComponent, beq_iff_eq]
  constructor
  · intro h i hi
    have hmask : mask[i.1] = true := hi
    have hbit := congrArg (fun v : Byte => v.getLsbD i) h
    simpa [hmask] using hbit
  · intro h
    refine BitVec.eq_of_getLsbD_eq fun i hi => ?_
    cases hm : mask.getLsbD i with
    | false => simp [hm]
    | true => simp [h ⟨i, hi⟩ hm]

theorem keyPasses_iff (r : WindowRecord) (original : RGB) : keyPasses r original = true ↔ passesKey r original := by
  unfold keyPasses passesKey
  cases r.key with
  | none => simp
  | some k =>
    have hmatch : (keyComponent original.r k.colour.r k.mask.r && keyComponent original.g k.colour.g k.mask.g
        && keyComponent original.b k.colour.b k.mask.b) = true ↔ keyMatches k original := by
      simp only [Bool.and_eq_true, keyComponent_iff, keyMatches, and_assoc]
    cases hsense : k.sense with
    | isMatch => simpa only [hsense] using hmatch
    | noMatch => simpa only [hsense, Bool.not_eq_true', ← Bool.not_eq_true] using not_congr hmatch

/-! ### Where a point lies in a window (R102) -/

theorem covers_of_inContent {r : WindowRecord} {x y : Nat} (h : inContent r x y) : covers r x y := by
  obtain ⟨hleft, hright, htop, hbottom⟩ := h
  unfold covers
  omega

theorem partAt_of_inContent {r : WindowRecord} {x y : Nat} (h : inContent r x y) :
    partAt r x y = .content (x - r.x) (y - r.y) := if_pos h

theorem partAt_of_border {r : WindowRecord} {x y : Nat} {b : Border} (hb : r.border = some b) (hcovers : covers r x y)
    (hring : ¬ inContent r x y) : partAt r x y = .border b.colour := by
  simp only [covers, borderWidth, hb] at hcovers
  refine (if_neg hring).trans ?_
  rw [hb]
  exact if_pos hcovers

theorem partAt_of_not_covers {r : WindowRecord} {x y : Nat} (h : ¬ covers r x y) : partAt r x y = .outside := by
  refine (if_neg fun hin => h (covers_of_inContent hin)).trans ?_
  cases hb : r.border with
  | none => rfl
  | some b =>
    simp only [covers, borderWidth, hb] at h
    exact if_neg h

theorem contentLine_scan (r : WindowRecord) (y : Nat) : (contentLine r (y - r.y)).scan = scanLine r y := by
  unfold contentLine scanLine
  cases r.split with
  | none => rfl
  | some p =>
    dsimp only
    split_ifs <;> rfl

/-! ### The dot and the colour of a content pixel (R80, R82, R104 to R107) -/

theorem cursorOn_iff (r : WindowRecord) (index scan : Nat) (blinkOn : Bool) : cursorOn r index scan blinkOn = true ↔
    ∃ u, r.cursor = some u ∧ index = u.cell ∧ u.startLine ≤ scan ∧ scan ≤ u.endLine
      ∧ (u.blink = false ∨ blinkOn = true) := by
  unfold cursorOn
  cases r.cursor <;> simp [and_assoc]

/-- R107: underline and cursor force the dot on; else blink forces it off; else it is the glyph's. -/
theorem drawnDot_iff (r : WindowRecord) (cell : CacheEntry) (scan : Nat) (blinkOn glyphDot : Bool) :
    drawnDot r cell scan blinkOn glyphDot = true ↔
      (scan = r.underlineLine ∧ cell.cell.flags.getLsbD 1 = true)
      ∨ (∃ u, r.cursor = some u ∧ cell.index = u.cell ∧ u.startLine ≤ scan ∧ scan ≤ u.endLine
          ∧ (u.blink = false ∨ blinkOn = true))
      ∨ (¬ (r.blinkEnable = true ∧ cell.cell.flags.getLsbD 0 = true ∧ blinkOn = false) ∧ glyphDot = true) := by
  have hunderlined : underlined r cell.cell scan = true ↔
      scan = r.underlineLine ∧ cell.cell.flags.getLsbD 1 = true := by simp [underlined]
  have hblanked : blanked r cell.cell blinkOn = true ↔
      r.blinkEnable = true ∧ cell.cell.flags.getLsbD 0 = true ∧ blinkOn = false := by simp [blanked, and_assoc]
  rw [← hunderlined, ← cursorOn_iff, ← hblanked]
  unfold drawnDot
  by_cases hforced : (underlined r cell.cell scan || cursorOn r cell.index scan blinkOn) = true
  · rw [if_pos hforced]
    exact iff_of_true rfl ((Bool.or_eq_true_iff.1 hforced).imp_right .inl)
  · rw [if_neg hforced]
    rw [Bool.or_eq_true_iff, not_or] at hforced
    by_cases hblank : blanked r cell.cell blinkOn = true <;> simp [hforced, hblank]

/-- The clear background takes the coverage of a background dot to 0. -/
theorem blend_cellEntry (sc : Scene) (r : WindowRecord) (c : Cell) (dot : Bool) (under : RGB) :
    let entry := outputEntry sc (sc.palettes[r.palette])[(if dot then c.fg else c.bg).toFin]
    blend (cellEntry sc r c dot).coverage (cellEntry sc r c dot).colour under =
      blendedWith entry (if dot = false ∧ c.flags.getLsbD 3 = true then 0 else entry.coverage) under := by
  cases dot with
  | true => rfl
  | false =>
    intro entry
    unfold cellEntry
    cases c.flags.getLsbD 3 <;> rfl

/-! ### One window's step at a pixel (R109) -/

section MixWindow

variable {s : State} {x y : Nat} {original : RGB} {k : Fin 8} {r : WindowRecord} {m : Mixing}

theorem mixWindow_of_not_covers (hr : ∀ r, s.scene.live.windows[k] = some r → ¬ covers r x y) :
    mixWindow s x y original k m = m := by
  unfold mixWindow
  dsimp only
  cases hwindow : s.scene.live.windows[k] with
  | none => rfl
  | some r => simp only [partAt_of_not_covers (hr r hwindow)]

theorem mixWindow_of_border {b : Border} (hr : s.scene.live.windows[k] = some r) (hb : r.border = some b)
    (hcovers : covers r x y) (hring : ¬ inContent r x y) :
    let entry := outputEntry s.scene.live b.colour
    mixWindow s x y original k m =
      if keyPasses r original then { m with result := blend entry.coverage entry.colour m.result } else m := by
  simp only [mixWindow, hr, partAt_of_border hb hcovers hring]

theorem mixWindow_of_content {cell : CacheEntry} (hr : s.scene.live.windows[k] = some r) (hin : inContent r x y)
    (hcell : (s.comp.caches[k])[(x - r.x) / r.cellWidth]? = some cell) :
    let read := readDots s.glyphs m.reads[k] ((x - r.x) / r.cellWidth) (bankOf r cell.cell) cell.cell.code.toNat
      (scanLine r y)
    let entry := cellEntry s.scene.live r cell.cell
      (drawnDot r cell (scanLine r y) s.comp.blinkOn (dotAt read.dots ((x - r.x) % r.cellWidth)))
    mixWindow s x y original k m =
      ⟨if keyPasses r original then blend entry.coverage entry.colour m.result else m.result,
        m.reads.set k (some read)⟩ := by
  simp only [mixWindow, hr, partAt_of_inContent hin, hcell, contentLine_scan]

end MixWindow

theorem bankOf_eq (r : WindowRecord) (c : Cell) :
    bankOf r c = if r.dualBank = true ∧ c.flags.getLsbD 2 = true then r.bankB else r.bankA := by
  simp [bankOf]

theorem readDots_eq (m : Store Word) (held : Option GlyphRead) (column bank code scan : Nat) :
    readDots m held column bank code scan = ⟨column, match held with
      | some g => if g.column = column then g.dots else glyphRow m bank code scan
      | none => glyphRow m bank code scan⟩ := by
  cases held with
  | none => rfl
  | some g =>
    by_cases h : g.column = column
    · subst h
      simp [readDots]
    · simp [readDots, h]

/-- The front window is mixed last. -/
theorem mixPixel_cons {s : State} {k : Fin 8} {rest : List (Fin 8)} (x y : Nat) (original : RGB)
    (h : s.scene.live.order = k :: rest) :
    mixPixel s x y original = mixWindow s x y original k (mixPixel
      { s with scene := { s.scene with live := { s.scene.live with order := rest } } } x y original) := by
  unfold mixPixel
  rw [h, List.reverse_cons, List.foldl_append]
  rfl

theorem mixPixel_of_not_covered {s : State} {x y : Nat} (original : RGB)
    (h : ∀ k ∈ s.scene.live.order, ∀ r, s.scene.live.windows[k] = some r → ¬ covers r x y) :
    mixPixel s x y original = ⟨original, s.comp.reads⟩ := by
  have hkeep (m : Mixing) (l : List (Fin 8)) (hl : ∀ k ∈ l, k ∈ s.scene.live.order) :
      l.foldl (fun m k => mixWindow s x y original k m) m = m := by
    induction l with
    | nil => rfl
    | cons k rest ih =>
      rw [List.foldl_cons, mixWindow_of_not_covers (h k (hl k List.mem_cons_self))]
      exact ih fun k hk => hl k (List.mem_cons_of_mem _ hk)
  exact hkeep _ _ fun k hk => List.mem_reverse.1 hk

/-- Settles O14. -/
theorem windowsMixBackToFront : Obligations.WindowsMixBackToFront := by
  refine ⟨fun s x y original k rest horder => ⟨?front, fun r b m hr hb hcovers hring => ?border⟩,
    fun s x y original k r m hr houtside => ?outside,
    fun s x y original k r cell m hr hin hcell => ?content,
    fun s g x y c hdrawing => ?output⟩
  case front => exact mixPixel_cons x y original horder
  case border =>
    intro entry
    rw [mixWindow_of_border hr hb hcovers hring, ← keyPasses_iff]
    exact ⟨fun hpass => if_pos hpass, fun hpass => if_neg hpass⟩
  case outside =>
    refine mixWindow_of_not_covers fun r' hr' => ?_
    obtain rfl : r = r' := Option.some.inj (hr.symm.trans hr')
    exact houtside
  case content =>
    intro bank now dots glyph underline cursor blinks
    have hmix := mixWindow_of_content (original := original) (m := m) hr hin hcell
    rw [readDots_eq, bankOf_eq] at hmix
    refine ⟨drawnDot r cell (scanLine r y) s.comp.blinkOn glyph, drawnDot_iff r cell _ _ glyph, ?_⟩
    intro index entry coverage reads
    rw [hmix, ← keyPasses_iff]
    exact ⟨fun hpass => congrArg (Mixing.mk · reads)
        ((if_pos hpass).trans (blend_cellEntry s.scene.live r cell.cell _ m.result)),
      fun hpass => congrArg (Mixing.mk · reads) (if_neg hpass)⟩
  case output =>
    obtain ⟨t, hexec, hout, ⟨hcomp, hscene, hcells, hglyphs, hsessions⟩⟩ := exec_pixel_drawing hdrawing c
    refine ⟨t, hexec, hout, hcomp, ?_⟩
    simp [hscene, hsessions, hcells, hglyphs, composePixel]

/-! ### Pixels outside every window, in a border and in a content (R108, R109, R110) -/

theorem received_px_inLine {s t : State} {next n x : Nat} {damaged : Bool} {c : RGB}
    (hpos : s.rx.frame = ⟨true, .inFrame next (some ⟨n, x⟩), damaged⟩) (h : t.rx = s.rx.after (.px c)) :
    t.rx = { s.rx with frame := ⟨true, .inFrame next (some ⟨n, x + 1⟩), damaged⟩, gapPackets := 0 } := by
  rw [h, Receiver.after, hpos]
  rfl

/-- Where no window of the live Order covers the point, the Compositor forms the pixel that came. -/
theorem composePixel_of_not_covered {s : State} {x y : Nat} (original : RGB)
    (h : ∀ k ∈ s.scene.live.order, ∀ r, s.scene.live.windows[k] = some r → ¬ covers r x y) :
    (composePixel x y original s).1 = original := by
  refine congrArg Mixing.result (mixPixel_of_not_covered (s := fetchAll s) original ?_)
  simpa using h

theorem mixPixel_of_one_window {s : State} {k : Fin 8} (x y : Nat) (original : RGB) (h : s.scene.live.order = [k]) :
    mixPixel s x y original = mixWindow s x y original k ⟨original, s.comp.reads⟩ := by
  rw [mixPixel, h]
  rfl

theorem exec_pixel_one_window {s : State} {g : Geometry} {x y : Nat} {k : Fin 8} (hdrawing : s.drawing g x y)
    (howed : s.comp.owed = []) (horder : s.scene.live.order = [k]) (c : RGB) :
    let mixed := mixWindow s x y c k ⟨c, s.comp.reads⟩
    ∃ t, exec (.pixel c) s = .next t ∧ t.linkOut.getLast? = some (.px mixed.result)
      ∧ t.comp = { s.comp with reads := mixed.reads } := by
  obtain ⟨t, hexec, hout, hkept⟩ := exec_pixel_drawing hdrawing c
  have hcomp := hkept.comp
  simp only [composePixel, fetchAll_of_none_owed howed, mixPixel_of_one_window x y c horder] at hout hcomp
  exact ⟨t, hexec, hout, hcomp⟩

/-- Settles O12. -/
theorem uncoveredAndBorderPixels : Obligations.UncoveredAndBorderPixels := by
  refine ⟨fun s g c n x next damaged hs hpos hfirst hlast hx hg hfree => ?uncovered,
    fun s g c pos hs hpos hframe => ?damaged,
    fun s g x y c k r b hdrawing howed horder hr hb hcovers hring => ?border⟩
  case uncovered =>
    have ⟨_, _, _, hcompose⟩ := hs
    have hactive := active_of_le_of_lt hfirst hlast
    have haccepts := accepts_activePixel hs hpos hactive hx c
    by_cases hframe : s.comp.frame = .drawing
    · obtain ⟨t, hexec, hout, hkept, hrx, hmode⟩ :=
        exec_pixel_drawn (next := next) hs haccepts hframe hg (by rw [hpos]) hactive
      rw [composePixel_of_not_covered c (hfree.resolve_left (not_not_intro hframe))] at hout
      refine ⟨t, hexec, hout, received_px_inLine hpos hrx, ?_⟩
      simp [hkept.scene, hkept.sessions, hkept.cells, hkept.glyphs, hkept.comp, hmode, composePixel,
        fetchAll_comp_frame]
    · obtain ⟨t, hexec, hout, h⟩ := exec_pixel_undrawn hs haccepts hframe
      exact ⟨t, hexec, hout, received_px_inLine hpos h.rx, h.scene, h.sessions, h.cells, h.glyphs, by rw [h.comp],
        h.mode.trans hcompose⟩
  case damaged =>
    intro moved
    have ⟨_, _, _, hcompose⟩ := hs
    obtain ⟨t, hexec, hout, h⟩ := exec_pixel_undrawn hs (accepts_of_damaged (.px c) (by rw [hpos])) hframe
    have hmoved : pos.step (.px c) = moved := by
      rcases pos with _ | ⟨next, _ | l⟩ <;> rfl
    refine ⟨t, hexec, hout, ?_, h.scene, h.sessions, h.cells, h.glyphs, h.comp, h.mode.trans hcompose⟩
    rw [h.rx, Receiver.after, hpos, ← hmoved]
  case border =>
    obtain ⟨t, hexec, hout, hcomp⟩ := exec_pixel_one_window hdrawing howed horder c
    obtain ⟨hfront, -⟩ := windowsMixBackToFront
    obtain ⟨-, hborder⟩ := hfront s x y c k [] horder
    obtain ⟨hpasses, hfails⟩ := hborder r b ⟨c, s.comp.reads⟩ hr hb hcovers hring
    refine ⟨t, hexec, fun hpass => by rw [hout, hpasses hpass], fun hpass => by rw [hout, hfails hpass], ?_⟩
    by_cases hpass : passesKey r c
    · rw [hcomp, hpasses hpass]
    · rw [hcomp, hfails hpass]

/-- Settles O13: with one window in the Order the mix is its content step. -/
theorem contentPixelIsBlended : Obligations.ContentPixelIsBlended := by
  intro s g x y c k r cell hdrawing howed horder hr hin hcell
  obtain ⟨t, hexec, hout, hcomp⟩ := exec_pixel_one_window hdrawing howed horder c
  obtain ⟨-, -, hcontent, -⟩ := windowsMixBackToFront
  obtain ⟨dot, hdot, hpasses, hfails⟩ := hcontent s x y c k r cell ⟨c, s.comp.reads⟩ hr hin hcell
  refine ⟨t, hexec, dot, hdot, ⟨fun hpass => by rw [hout, hpasses hpass], fun hpass => by rw [hout, hfails hpass]⟩, ?_⟩
  by_cases hpass : passesKey r c
  · rw [hcomp, hpasses hpass]
    exact Vector.getElem_set_self _
  · rw [hcomp, hfails hpass]
    exact Vector.getElem_set_self _

end Sys2Proof.Machine

namespace Sys2Proof.Machine

/-! ### The link's law: output mode, watchdog and unit address follow the lock state (Table 37, R116, R121) -/

/-- Table 37, R116, R121, R124 together. -/
def LinkLaw (s : State) : Prop := ModeLaw s ∧ WatchdogLaw s ∧ UnitLaw s

/-- What each lock state asks of the receiver and the transmitter (Table 37, R121, R124, R138). -/
def Accord (rx : Receiver) (tx : Transmitter) : Prop :=
  match rx.lock with
  | .init => tx.mode = .bypass ∧ tx.generator = .idle ∧ rx.watchdog = none
  | .search => tx.mode = .pass ∧ tx.generator = .idle ∧ rx.watchdog = none
  | .acquire => tx.mode = .pass ∧ tx.generator = .idle
  | .locked => (tx.mode = .compose ∨ tx.mode = .await ∧ rx.frame.judged = false) ∧ tx.generator = .idle
      ∧ rx.geometry.isSome = true
  | .holdover => tx.mode = .generate ∧ tx.generator ≠ .idle ∧ rx.geometry.isSome = true

theorem linkLaw_iff (s : State) : LinkLaw s ↔ Accord s.rx s.tx ∧ UnitLaw s := by
  unfold LinkLaw ModeLaw WatchdogLaw Accord
  cases s.rx.lock <;> cases s.tx.mode <;> simp <;> tauto

/-- Between `s` and `t` everything that the law reads stands. -/
structure LinkKept (s t : State) : Prop where
  lock : t.rx.lock = s.rx.lock
  geometry : t.rx.geometry = s.rx.geometry
  watchdog : t.rx.watchdog = s.rx.watchdog
  judged : t.rx.frame.judged = s.rx.frame.judged
  mode : t.tx.mode = s.tx.mode
  generator : t.tx.generator = s.tx.generator
  unit : t.unitAddress = s.unitAddress

theorem LinkKept.law {s t : State} (g : LinkKept s t) (h : LinkLaw s) : LinkLaw t := by
  rw [linkLaw_iff] at h ⊢
  unfold Accord UnitLaw at h ⊢
  rwa [g.lock, g.geometry, g.watchdog, g.judged, g.mode, g.generator, g.unit]


theorem LinkKept.of_link {s t : State} (hrx : t.rx = s.rx) (htx : t.tx = s.tx) (hunit : t.unitAddress = s.unitAddress) :
    LinkKept s t := by
  constructor <;> simp [hrx, htx, hunit]

@[simp] theorem LinkKept.refl (s : State) : LinkKept s s := .of_link rfl rfl rfl

theorem LinkKept.trans {s t u : State} (g : LinkKept s t) (h : LinkKept t u) : LinkKept s u :=
  ⟨h.lock.trans g.lock, h.geometry.trans g.geometry, h.watchdog.trans g.watchdog, h.judged.trans g.judged,
    h.mode.trans g.mode, h.generator.trans g.generator, h.unit.trans g.unit⟩

theorem ready_linkKept (s : State) : LinkKept s s.ready := .of_link (by simp) (by simp) (by simp)

theorem settleSome_linkKept (s : State) : LinkKept s (settleSome s) := .of_link (by simp) (by simp) (by simp)

@[simp] theorem closeGap_generator (s : State) : (closeGap s).tx.generator = s.tx.generator := by
  unfold closeGap wakeEngine
  dsimp only
  repeat' split
  all_goals rfl

@[simp] theorem putSymbol_generator (sym : Symbol) (s : State) : (putSymbol sym s).tx.generator = s.tx.generator := by
  unfold putSymbol
  dsimp only
  repeat' split
  all_goals simp

theorem closeGap_linkKept (s : State) : LinkKept s (closeGap s) := by constructor <;> simp

theorem putSymbol_linkKept (sym : Symbol) (s : State) : LinkKept s (putSymbol sym s) := by constructor <;> simp

theorem reportLockChange_linkKept (s : State) : LinkKept s (reportLockChange s) :=
  .of_link (by simp) (by simp) (by simp)

/-! ### What a symbol in LOCKED does to the part (R118 to R120) -/

/-- The Compositor behind a symbol that is no FS: an LS of an active line begins its fetches while DRAWING (R99, R101), and
an FE ends the drawing (R93). -/
def Compositor.afterSymbol (comp : Compositor) (live : Scene) (sym : Symbol) : Compositor :=
  match sym with
  | .ls n =>
    match comp.frame, comp.geometry with
    | .drawing, some g =>
      if g.active n then { comp with owed := fetchesAt live (n - g.l0), reads := Vector.replicate 8 none } else comp
    | _, _ => comp
  | .fe => { comp with frame := .idle, owed := [] }
  | _ => comp

/-- Every symbol but FS moves the frame on, and the Compositor with it. -/
theorem lockedStep_of_not_fs {clean : Bool} {sym : Symbol} {s : State} (h : sym ≠ .fs) :
    lockedStep clean sym s = { s with
      rx := { s.rx with frame := { s.rx.frame with pos := s.rx.frame.pos.step sym } }
      comp := s.comp.afterSymbol s.scene.live sym } := by
  cases sym
  case fs => exact absurd rfl h
  case ls n =>
    unfold lockedStep Compositor.afterSymbol
    cases hframe : s.comp.frame with
    | idle | stopped => simp only [hframe]
    | drawing =>
      cases hg : s.comp.geometry with
      | none => simp only [hframe, hg]
      | some g =>
        simp only [hframe, hg]
        split_ifs
        · simp only [composeLineStart, hframe, hg]
        · rfl
  all_goals rfl

/-- R119, R120: the first damaged frame is counted, stops the drawing and sets the run. -/
theorem framingError_of_run_clear {s : State} (hrun : s.rx.run = false) :
    framingError s = { s with
      rx := { s.rx with
        damagedFrames := saturate s.rx.damagedFrames, run := true, frame := { s.rx.frame with damaged := true } }
      comp := { s.comp with frame := if s.comp.frame = .drawing then .stopped else s.comp.frame, owed := [] } } := by
  simp [framingError, stopCompositor, hrun]

/-- R120, R130: the second moves the receiver to ACQUIRE and the output to PASS, and is reported (R128). -/
theorem framingError_of_run_set {s : State} (hrun : s.rx.run = true) :
    framingError s = reportLockChange { s with
      rx := { s.rx with
        lock := .acquire, run := false, tracker := Tracker.reset
        damagedFrames := saturate s.rx.damagedFrames, frame := { s.rx.frame with damaged := true } }
      comp := { s.comp with frame := .idle, owed := [] }
      tx := { s.tx with mode := .pass } } := by
  simp [framingError, stopCompositor, idleCompositor, hrun]

/-- A symbol is taken in its place, or it is the first framing error of its frame (R119). -/
theorem accepts_or_fault (rx : Receiver) (sym : Symbol) :
    rx.accepts sym ∨ ∃ g, rx.frame.clean = true ∧ rx.geometry = some g ∧ framingFault g rx.frame.pos sym = true := by
  by_cases h : ∃ g, rx.frame.clean = true ∧ rx.geometry = some g ∧ framingFault g rx.frame.pos sym = true
  · exact .inr h
  · refine .inl fun hclean g hg => ?_
    rw [← Bool.not_eq_true]
    exact fun hfault => h ⟨g, hclean, hg, hfault⟩

/-- R119, R120: the symbol of the first framing error is taken behind the error. -/
theorem lockedSymbol_of_fault {s : State} {sym : Symbol} {g : Geometry} (hlock : s.rx.lock = .locked)
    (hclean : s.rx.frame.clean = true) (hg : s.rx.geometry = some g)
    (hfault : framingFault g s.rx.frame.pos sym = true) :
    lockedSymbol sym s =
      if s.rx.run then (if sym = .fs then acquireSymbol .fs (framingError s) else framingError s)
      else lockedStep false sym (framingError s) := by
  have hnext : (framingError s).rx.lock = if s.rx.run then .acquire else .locked := by
    cases hrun : s.rx.run
    · simp [framingError_of_run_clear hrun, hlock]
    · simp [framingError_of_run_set hrun]
  unfold lockedSymbol
  dsimp only
  cases hrun : s.rx.run <;> simp [hclean, hg, hfault, hnext, hrun]

/-! ### Symbols at the receiver keep the law -/

section LinkRows

variable {s : State}

/-- R118, R124: LOCKED is entered composing, or waiting and unjudged. -/
theorem enterLocked_linkLaw {g : Geometry} {judged : Bool} {mode : OutputMode} (hunit : UnitLaw s)
    (hgen : s.tx.generator = .idle) (hmode : mode = .compose ∨ mode = .await ∧ judged = false) :
    LinkLaw (enterLocked g judged mode s) := by
  refine (reportLockChange_linkKept _).law ((linkLaw_iff _).2 ⟨?_, hunit⟩)
  exact ⟨hmode, hgen, rfl⟩

theorem acquireSymbol_linkLaw {sym : Symbol} (h : LinkLaw s) (hlock : s.rx.lock = .acquire) :
    LinkLaw (acquireSymbol sym s) := by
  obtain ⟨haccord, hunit⟩ := (linkLaw_iff s).1 h
  have hpass : s.tx.mode = .pass ∧ s.tx.generator = .idle := by simpa [Accord, hlock] using haccord
  have htaken (tracker : Tracker) (watchdog : Option Nat) :
      LinkLaw { s with rx := { s.rx with tracker := tracker, watchdog := watchdog } } :=
    (linkLaw_iff _).2 ⟨by simpa [Accord, hlock] using hpass, hunit⟩
  unfold acquireSymbol
  rcases s.rx.tracker.symbol sym with ⟨tracker, success⟩
  cases success with
  | none =>
    dsimp only
    split_ifs
    · exact htaken tracker _
    · exact htaken tracker s.rx.watchdog
  | some g =>
    dsimp only
    split_ifs <;> exact enterLocked_linkLaw hunit hpass.2 (.inl rfl)

theorem searchSymbol_linkLaw {sym : Symbol} (h : LinkLaw s) (hlock : s.rx.lock = .search) :
    LinkLaw (searchSymbol sym s) := by
  obtain ⟨haccord, hunit⟩ := (linkLaw_iff s).1 h
  unfold searchSymbol
  split_ifs
  · refine acquireSymbol_linkLaw ((linkLaw_iff _).2 ⟨?_, hunit⟩) rfl
    simp only [Accord, hlock] at haccord ⊢
    exact ⟨haccord.1, haccord.2.1⟩
  · exact h

theorem holdoverSymbol_linkLaw {sym : Symbol} (h : LinkLaw s) (hlock : s.rx.lock = .holdover) :
    LinkLaw (holdoverSymbol sym s) := by
  obtain ⟨haccord, hunit⟩ := (linkLaw_iff s).1 h
  have htaken (rx : Receiver) (hrx : rx.lock = .holdover) (hgeometry : rx.geometry = s.rx.geometry) :
      LinkLaw { s with rx := rx } := by
    refine (linkLaw_iff _).2 ⟨?_, hunit⟩
    simpa [Accord, hlock, hrx, hgeometry] using haccord
  unfold holdoverSymbol
  dsimp only
  split_ifs <;> split
  all_goals exact htaken _ hlock rfl

/-- R120: a judged frame's error leaves LOCKED composing, or moves to ACQUIRE passing. -/
theorem framingError_linkLaw (h : LinkLaw s) (hlock : s.rx.lock = .locked) : LinkLaw (framingError s) := by
  obtain ⟨haccord, hunit⟩ := (linkLaw_iff s).1 h
  simp only [Accord, hlock] at haccord
  obtain ⟨hmode, hgen, hgeometry⟩ := haccord
  unfold framingError
  dsimp only
  split_ifs
  · refine (reportLockChange_linkKept _).law ((linkLaw_iff _).2 ⟨?_, hunit⟩)
    exact ⟨rfl, hgen⟩
  · refine (linkLaw_iff _).2 ⟨?_, hunit⟩
    simpa [Accord, stopCompositor, hlock] using ⟨hmode, hgen, hgeometry⟩

/-- Only an FS judges the frame, and AWAIT ends with it (R124, R141). -/
theorem lockedStep_linkLaw {clean : Bool} {sym : Symbol} (h : LinkLaw s) (hlock : s.rx.lock = .locked)
    (hfs : sym = .fs → s.tx.mode = .compose) : LinkLaw (lockedStep clean sym s) := by
  obtain ⟨haccord, hunit⟩ := (linkLaw_iff s).1 h
  simp only [Accord, hlock] at haccord
  obtain ⟨hmode, hgen, hgeometry⟩ := haccord
  by_cases hsym : sym = .fs
  · subst hsym
    cases clean <;> exact (linkLaw_iff _).2
      ⟨by simp [lockedStep, Accord, compositedFrameStart, hlock, hfs rfl, hgen, hgeometry], hunit⟩
  · rw [lockedStep_of_not_fs hsym]
    exact (linkLaw_iff _).2 ⟨by simpa [Accord, hlock] using ⟨hmode, hgen, hgeometry⟩, hunit⟩

/-- A frame that is not judged has no framing error (R119, R124). -/
theorem lockedSymbol_linkLaw {sym : Symbol} (h : LinkLaw s) (hlock : s.rx.lock = .locked)
    (hfs : sym = .fs → s.tx.mode ≠ .await) : LinkLaw (lockedSymbol sym s) := by
  obtain ⟨haccord, hunit⟩ := (linkLaw_iff s).1 h
  simp only [Accord, hlock] at haccord
  obtain ⟨hmode, hgen, hgeometry⟩ := haccord
  have hfs' (hsym : sym = .fs) : s.tx.mode = .compose := hmode.resolve_right fun hawait => hfs hsym hawait.1
  rcases accepts_or_fault s.rx sym with haccepts | ⟨g, hclean, hg, hfault⟩
  · rw [lockedSymbol_of_accepts hlock haccepts]
    exact lockedStep_linkLaw h hlock hfs'
  · have hlaw := framingError_linkLaw h hlock
    rw [lockedSymbol_of_fault hlock hclean hg hfault]
    cases hrun : s.rx.run with
    | false =>
      refine lockedStep_linkLaw hlaw ?_ fun hsym => ?_ <;> rw [framingError_of_run_clear hrun]
      · exact hlock
      · exact hfs' hsym
    | true =>
      have hacquire : (framingError s).rx.lock = .acquire := by simp [framingError_of_run_set hrun]
      rw [if_pos rfl]
      split_ifs
      · exact acquireSymbol_linkLaw hlaw hacquire
      · exact hlaw

theorem receiveSymbol_linkLaw {sym : Symbol} (h : LinkLaw s) (hfs : sym = .fs → s.tx.mode ≠ .await) :
    LinkLaw (receiveSymbol sym s) := by
  have hcounted : LinkLaw { s with rx := { s.rx with gapPackets := 0 } } := h
  unfold receiveSymbol
  dsimp only
  split
  · exact hcounted
  · next hlock => exact searchSymbol_linkLaw hcounted hlock
  · next hlock => exact acquireSymbol_linkLaw hcounted hlock
  · next hlock => exact lockedSymbol_linkLaw hcounted hlock hfs
  · next hlock => exact holdoverSymbol_linkLaw hcounted hlock

theorem orderedClose_linkLaw {act : State → State} (hact : ∀ u, LinkKept s u → LinkLaw (act u)) :
    LinkLaw (orderedClose act s) := by
  have hdrawn : LinkKept s s.draw.2 := .of_link rfl rfl rfl
  unfold orderedClose
  dsimp only
  split
  · split_ifs
    · exact (closeGap_linkKept _).law ((settleSome_linkKept _).law (hact _ hdrawn))
    · exact hact _ (hdrawn.trans (closeGap_linkKept _))
    · exact hact _ (closeGap_linkKept s)
  · exact hact s (.refl s)

theorem composePixel_linkKept (x y : Nat) (original : RGB) (s : State) : LinkKept s (composePixel x y original s).2 :=
  .of_link (by simp [composePixel]) (by simp [composePixel]) (by simp [composePixel])

theorem passSymbol_linkKept (before : FramePos) (sym : Symbol) (s : State) : LinkKept s (passSymbol before sym s) := by
  unfold passSymbol
  split
  · split
    · exact (composePixel_linkKept _ _ _ s).trans (putSymbol_linkKept _ _)
    · exact putSymbol_linkKept _ _
  · exact putSymbol_linkKept _ _

/-- The FS that ends AWAIT judges the frame and begins COMPOSE (R118, R124, R141). -/
theorem receiveSymbol_await_linkLaw (h : LinkLaw s) (hmode : s.tx.mode = .await) :
    LinkLaw { receiveSymbol .fs s with tx := { (receiveSymbol .fs s).tx with mode := .compose } } := by
  obtain ⟨haccord, hunit⟩ := (linkLaw_iff s).1 h
  have hlock : s.rx.lock = .locked := by
    unfold Accord at haccord
    split at haccord <;> simp_all
  simp only [Accord, hlock, hmode] at haccord
  obtain ⟨hunjudged, hgen, hgeometry⟩ := haccord
  have haccepts : Receiver.accepts { s.rx with gapPackets := 0 } .fs := by
    simp_all [Receiver.accepts, LockedFrame.clean]
  have htaken := lockedSymbol_of_accepts (s := { s with rx := { s.rx with gapPackets := 0 } }) hlock haccepts
  rw [receiveSymbol_of_locked .fs hlock, htaken]
  refine (linkLaw_iff _).2 ⟨?_, ?_⟩
  · cases s.rx.frame.clean <;> simp [lockedStep, Accord, compositedFrameStart, hlock, hgen, hgeometry]
  · cases s.rx.frame.clean <;> exact hunit

theorem inputSymbol_linkLaw {sym : Symbol} (h : LinkLaw s) : LinkLaw (inputSymbol sym s) := by
  have hready : LinkLaw s.ready := (ready_linkKept s).law h
  have hreceive (hmode : s.ready.tx.mode ≠ .await) : LinkLaw (orderedClose (receiveSymbol sym) s.ready) :=
    orderedClose_linkLaw fun u hu => receiveSymbol_linkLaw (hu.law hready) fun _ => by rw [hu.mode]; exact hmode
  unfold inputSymbol
  dsimp only
  split
  · refine LinkKept.law ?_ hready
    constructor <;> simp
  · next hmode => exact receiveSymbol_linkLaw hready fun _ => by rw [hmode]; decide
  · next hmode =>
    split_ifs with hsym
    · subst hsym
      exact (putSymbol_linkKept _ _).law (receiveSymbol_await_linkLaw hready hmode)
    · exact receiveSymbol_linkLaw hready fun hfs => absurd hfs hsym
  · next hmode => exact (passSymbol_linkKept _ _ _).law (hreceive hmode)

/-! ### Packets, the watchdog and the generator keep the law -/

theorem discardOverfull_linkLaw (h : LinkLaw s) : LinkLaw (discardOverfull s) := by
  have htracker (tracker : Tracker) : LinkLaw { s with rx := { s.rx with tracker := tracker } } := h
  unfold discardOverfull
  split
  · next hlock =>
    split_ifs
    · exact framingError_linkLaw h hlock
    · exact h
  · exact htracker _
  · split
    · exact h
    · exact htracker _
  · exact h
  · exact h

theorem admitUnicast_linkKept (source seq : Byte) (payload : List Byte) (s : State) :
    LinkKept s (admitUnicast source seq payload s) := by
  refine .of_link ?_ ?_ ?_ <;>
    · unfold admitUnicast openSession openEntry refuseOpen admitSequenced admitNext admitDuplicate answerOutOfSequence
      dsimp only [resetIdle]
      repeat' split
      all_goals simp

theorem forwardIfOutput_linkKept (run : List Byte) (s : State) : LinkKept s (forwardIfOutput run s) := by
  unfold forwardIfOutput
  split_ifs
  · exact ⟨rfl, rfl, rfl, rfl, rfl, rfl, rfl⟩
  · exact .refl s

theorem admitBroadcast_linkKept (seq : Byte) (payload : List Byte) (s : State) :
    LinkKept s (admitBroadcast seq payload s) := by
  unfold admitBroadcast
  split_ifs
  · exact .of_link rfl rfl rfl
  · exact .refl s

theorem separate_linkKept (run : List Byte) (kind dest source seq : Byte) (payload : List Byte) (s : State) :
    LinkKept s (separate run kind dest source seq payload s) := by
  unfold separate
  split_ifs
  · exact admitUnicast_linkKept ..
  · exact (forwardIfOutput_linkKept run s).trans (admitBroadcast_linkKept ..)
  · exact forwardIfOutput_linkKept run s

theorem receivePacket_linkLaw (run : List Byte) (h : LinkLaw s) : LinkLaw (receivePacket run s) := by
  have hcounted : LinkLaw { s with rx := { s.rx with gapPackets := s.rx.gapPackets + 1 } } := h
  unfold receivePacket
  dsimp only
  split_ifs
  · exact discardOverfull_linkLaw h
  · split
    · exact discardOverfull_linkLaw hcounted
    · exact hcounted
    · exact (separate_linkKept ..).law hcounted

theorem endLineAndFrame_linkKept (s : State) : LinkKept s (endLineAndFrame s) := by
  have hput (sym : Symbol) (u : State) : LinkKept u (putSymbol sym (closeGap u)) :=
    (closeGap_linkKept u).trans (putSymbol_linkKept sym _)
  unfold endLineAndFrame
  dsimp only
  split_ifs
  · exact (hput .le s).trans (hput .fe _)
  · exact hput .le s
  · exact hput .fe s
  · exact .refl s

theorem endInterruptedFrame_linkKept (s : State) : LinkKept s (endInterruptedFrame reportLockChange s) := by
  have hdrawn (u : State) : LinkKept u u.draw.2 := .of_link rfl rfl rfl
  have hended : LinkKept s (endLineAndFrame s.draw.2).draw.2 :=
    ((hdrawn s).trans (endLineAndFrame_linkKept _)).trans (hdrawn _)
  unfold endInterruptedFrame
  dsimp only
  split_ifs
  · exact (((hdrawn s).trans (reportLockChange_linkKept _)).trans (endLineAndFrame_linkKept _)).trans
      (closeGap_linkKept _)
  · exact (hended.trans (reportLockChange_linkKept _)).trans (closeGap_linkKept _)
  · exact (hended.trans (closeGap_linkKept _)).trans (reportLockChange_linkKept _)

/-- R121, R138: with a geometry to run with, the generator runs from the entry of HOLDOVER. -/
theorem enterHoldover_linkLaw (hunit : UnitLaw s) (hgeometry : s.rx.geometry.isSome = true) :
    LinkLaw (enterHoldover s) := by
  have hended := endInterruptedFrame_linkKept (loseLock .holdover .generate s)
  have hg : (endInterruptedFrame reportLockChange (loseLock .holdover .generate s)).rx.geometry = s.rx.geometry :=
    hended.geometry
  refine (linkLaw_iff _).2 ⟨?_, ?_⟩
  · obtain ⟨g, hsome⟩ := Option.isSome_iff_exists.1 hgeometry
    unfold enterHoldover startGenerator Accord
    simp only [hended.lock, hended.mode, hg, hsome]
    simp [loseLock, idleCompositor]
  · have hkept : (enterHoldover s).unitAddress = s.unitAddress := hended.unit
    rwa [UnitLaw, hkept]

theorem expireWatchdog_linkLaw (h : LinkLaw s) : LinkLaw (expireWatchdog s) := by
  obtain ⟨haccord, hunit⟩ := (linkLaw_iff s).1 h
  unfold expireWatchdog
  dsimp only
  split <;> rename_i hlock <;> simp only [Accord, hlock] at haccord
  · split_ifs
    · exact enterHoldover_linkLaw hunit haccord.2.2
    · refine (reportLockChange_linkKept _).law ((linkLaw_iff _).2 ⟨?_, hunit⟩)
      exact ⟨rfl, haccord.2.1, rfl⟩
  all_goals exact (linkLaw_iff _).2 ⟨by simp [Accord, hlock, haccord], hunit⟩

/-- The generator may move on where it is running (R139). -/
theorem setGenerator_linkLaw {g : Geometry} {pos : GenPos} {period : Nat} (h : LinkLaw s)
    (hgen : s.tx.generator ≠ .idle) : LinkLaw (setGenerator g pos period s) := by
  obtain ⟨haccord, hunit⟩ := (linkLaw_iff s).1 h
  refine (linkLaw_iff _).2 ⟨?_, hunit⟩
  unfold Accord at haccord ⊢
  simp only [setGenerator_rx, setGenerator_tx]
  split <;> rename_i hlock <;> simp_all

theorem beginGeneratedFrame_linkLaw {g : Geometry} (h : LinkLaw s) (hgen : s.tx.generator ≠ .idle) :
    LinkLaw (beginGeneratedFrame g s) :=
  (putSymbol_linkKept _ _).law <| orderedClose_linkLaw fun _ hu =>
    LinkKept.law ⟨rfl, rfl, rfl, rfl, rfl, rfl, rfl⟩ (hu.law (setGenerator_linkLaw h hgen))

theorem generatedPixel_linkKept (g : Geometry) (k x : Nat) (s : State) : LinkKept s (generatedPixel g k x s) := by
  unfold generatedPixel
  split_ifs
  · exact (composePixel_linkKept _ _ _ s).trans (putSymbol_linkKept _ _)
  · exact putSymbol_linkKept _ _

theorem generateSymbol_linkLaw {g : Geometry} {pos : GenPos} {period : Nat} (h : LinkLaw s)
    (hgen : s.tx.generator ≠ .idle) : LinkLaw (generateSymbol g pos period s) := by
  have hset (u : State) (hu : LinkKept s u) (next : GenPos) : LinkLaw (setGenerator g next period u) :=
    setGenerator_linkLaw (hu.law h) (by rw [hu.generator]; exact hgen)
  have hput (sym : Symbol) : LinkKept s (putSymbol sym (closeGap s)) :=
    (closeGap_linkKept s).trans (putSymbol_linkKept sym _)
  have hcomp (u : State) (comp : Compositor) : LinkKept u { u with comp := comp } := .of_link rfl rfl rfl
  cases pos with
  | start => exact h
  | ended => exact h
  | line k =>
    unfold generateSymbol
    dsimp only
    split_ifs
    · exact hset _ ((hput _).trans (hcomp _ _)) _
    · exact hset _ (hput _) _
    · exact hset _ (hput _) _
  | pixel k x => exact hset _ ((closeGap_linkKept s).trans (generatedPixel_linkKept g k x _)) _
  | lineEnd k => exact hset _ (hput _) _
  | frameEnd => exact hset _ ((hput _).trans (hcomp _ _)) _

/-! ### The rows of the Command Engine keep the law -/

theorem takeHead_linkKept (s : State) : LinkKept s (takeHead s) := by
  refine .of_link ?_ ?_ ?_ <;>
    · unfold takeHead
      repeat' split
      all_goals simp

theorem cellStep_linkKept (s : State) : LinkKept s (cellStep s) := by
  refine .of_link ?_ ?_ ?_ <;>
    · unfold cellStep stepLong
      dsimp only
      repeat' split
      all_goals simp

theorem glyphStep_linkKept (s : State) : LinkKept s (glyphStep s) := by
  refine .of_link ?_ ?_ ?_ <;>
    · unfold glyphStep
      dsimp only
      repeat' split
      all_goals simp

theorem syncCommit_linkKept (s : State) : LinkKept s (syncCommit s) := by
  refine .of_link ?_ ?_ ?_ <;>
    · unfold syncCommit refusePacket
      dsimp only
      repeat' split
      all_goals simp

theorem sessionExpiry_linkKept (s : State) : LinkKept s (sessionExpiry s) := by
  refine .of_link ?_ ?_ ?_ <;>
    · unfold sessionExpiry
      dsimp only
      repeat' split
      all_goals simp

/-- A verdict on a command in state `s` leaves the link as it stands. -/
def Verdict.leavesLink (s : State) (v : Verdict) : Prop := LinkKept s (v.stateFrom s)

theorem conclude_linkKept {e : Fin 4} {x : Executing} {v : Verdict} (h : v.leavesLink s) :
    LinkKept s (conclude e x s v) := by
  refine h.trans (.of_link (by simp) ?_ ?_) <;> cases v <;> simp [conclude, refusePacket, Verdict.stateFrom]

theorem withCommand_linkKept {code : Byte} {k : Fin 4 → Executing → Option (List Byte) → State → State}
    (hk : ∀ e x ops, LinkKept s.ready (k e x ops s.ready)) : LinkKept s (withCommand code k s) := by
  refine (ready_linkKept s).trans ?_
  rcases withCommand_cases code k s with h | ⟨e, x, -, -, -, -, h⟩
  · rw [h]
    exact .refl _
  · rw [h]
    exact hk e x _

theorem runCommand_linkKept {code : Byte} {f : Fin 4 → Executing → List Byte → State → Verdict}
    (hf : ∀ e x ops, (f e x ops s.ready).leavesLink s.ready) : LinkKept s (runCommand code f s) := by
  refine withCommand_linkKept fun e x ops => ?_
  cases ops with
  | none => exact conclude_linkKept (v := .refuse .badOperand) (.refl _)
  | some ops => exact conclude_linkKept (hf e x ops)

section LinkVerdicts

variable {e : Fin 4} {x : Executing} {ops : List Byte} {slot : Fin 8}

@[simp] theorem leavesLink_refuse (status : Status) : (Verdict.refuse status).leavesLink s := .refl s

@[simp] theorem leavesLink_long (c : LongCommand) : (Verdict.long s c).leavesLink s := .refl s

@[simp] theorem leavesLink_done_same (data : List Byte) : (Verdict.done s data).leavesLink s := .refl s

@[simp] theorem leavesLink_done_scene (scene : SceneStore) (data : List Byte) :
    (Verdict.done { s with scene := scene } data).leavesLink s := .of_link rfl rfl rfl

@[simp] theorem leavesLink_ite {c : Prop} [Decidable c] {v w : Verdict} (hv : v.leavesLink s) (hw : w.leavesLink s) :
    (if c then v else w).leavesLink s := by
  split_ifs
  · exact hv
  · exact hw

@[simp] theorem leavesLink_done_setStaged (sc : Scene) (data : List Byte) :
    (Verdict.done (s.setStaged sc) data).leavesLink s := .of_link rfl rfl rfl

@[simp] theorem leavesLink_done_setWindowRecord (k : Fin 8) (r : WindowRecord) (data : List Byte) :
    (Verdict.done (s.setWindowRecord k r) data).leavesLink s := .of_link rfl rfl rfl

@[simp] theorem leavesLink_read {t : State} (data : List Byte) (h : LinkKept s t) :
    (Verdict.read x t data).leavesLink s := by
  unfold Verdict.read
  split_ifs
  · exact h
  · exact .refl s

@[simp] theorem leavesLink_noOperands {v : Verdict} (h : v.leavesLink s) : (noOperands ops v).leavesLink s := by
  unfold noOperands
  split
  · exact h
  · exact .refl s

@[simp] theorem leavesLink_controlOnly {v : Verdict} (h : v.leavesLink s) : (controlOnly e s v).leavesLink s := by
  unfold controlOnly
  split_ifs
  · exact h
  · exact .refl s

@[simp] theorem leavesLink_withinExtents {targets : List Nat} {v : Verdict} (h : v.leavesLink s) :
    (withinExtents e s targets v).leavesLink s := by
  unfold withinExtents
  split_ifs
  · exact .refl s
  · exact h

@[simp] theorem leavesLink_unsealed {v : Verdict} (h : v.leavesLink s) : (unsealed s v).leavesLink s := by
  unfold unsealed
  split_ifs
  · exact .refl s
  · exact h

@[simp] theorem leavesLink_withWindow {k : WindowRecord → Verdict} (h : ∀ r, (k r).leavesLink s) :
    (withWindow e slot s k).leavesLink s := by
  unfold withWindow
  split
  · exact .refl s
  · split_ifs
    · exact .refl s
    · exact leavesLink_unsealed (h _)

@[simp] theorem leavesLink_editWindow {edit : WindowRecord → Option WindowRecord} :
    (editWindow e slot s edit).leavesLink s := by
  refine leavesLink_withWindow fun r => ?_
  split <;> simp

end LinkVerdicts

/-! ### The law at every step -/

theorem claimWindow_leavesLink (e : Fin 4) (x : Executing) (ops : List Byte) :
    (claimWindow e x ops s).leavesLink s := by
  refine leavesLink_noOperands (leavesLink_unsealed ?_)
  split
  · exact .refl s
  · exact leavesLink_read _ (.of_link rfl rfl rfl)

theorem readStatus_leavesLink (e : Fin 4) (x : Executing) (ops : List Byte) : (readStatus e x ops s).leavesLink s := by
  unfold readStatus
  split
  · split_ifs
    · exact leavesLink_read _ (.refl s)
    · refine leavesLink_controlOnly ?_
      unfold Verdict.read
      split_ifs
      · exact ⟨rfl, rfl, rfl, rfl, rfl, rfl, rfl⟩
      · exact .refl s
    · exact .refl s
  · exact .refl s

theorem deviceSettings_leavesLink (e : Fin 4) (x : Executing) (ops : List Byte) :
    (deviceSettings e x ops s).leavesLink s := by
  have hdone (settings : DeviceSettings) : (Verdict.done { s with settings := settings } []).leavesLink s :=
    .of_link rfl rfl rfl
  unfold deviceSettings
  repeat' split
  all_goals simp [hdone]

theorem writeCells_leavesLink (e : Fin 4) (x : Executing) (ops : List Byte) : (writeCells e x ops s).leavesLink s := by
  have hdone (cells : Store Cell) : (Verdict.done { fetchSome s with cells := cells } []).leavesLink s :=
    .of_link (by simp [Verdict.stateFrom]) (by simp [Verdict.stateFrom]) (by simp [Verdict.stateFrom])
  unfold writeCells
  split
  · split
    · exact leavesLink_ite (leavesLink_withinExtents (hdone _)) (.refl s)
    · exact .refl s
  · exact .refl s

theorem writeGlyphRows_leavesLink (e : Fin 4) (x : Executing) (ops : List Byte) :
    (writeGlyphRows e x ops s).leavesLink s := by
  have hdone (glyphs : Store Word) : (Verdict.done { s with glyphs := glyphs } []).leavesLink s := .of_link rfl rfl rfl
  unfold writeGlyphRows
  repeat' split
  all_goals simp [hdone]

theorem closeSession_linkKept (e : Fin 4) (x : Executing) (ops : Option (List Byte)) (s : State) :
    LinkKept s (closeSession e x ops s) := by
  refine .of_link ?_ ?_ ?_ <;> (unfold closeSession; split <;> simp [refusePacket])

theorem clearCounters_linkKept (e : Fin 4) (x : Executing) (ops : Option (List Byte)) (s : State) :
    LinkKept s (clearCounters e x ops s) := by
  unfold clearCounters
  split
  · split_ifs
    · exact conclude_linkKept (readStatus_leavesLink e x _)
    · exact .refl s
  · exact .refl s

theorem resetDevice_linkKept (e : Fin 4) (x : Executing) (ops : Option (List Byte)) (s : State) :
    LinkKept s (resetDevice e x ops s) := by
  unfold resetDevice
  split
  · split_ifs
    · exact ⟨rfl, rfl, rfl, rfl, rfl, rfl, rfl⟩
    · exact .of_link rfl rfl rfl
  · exact .of_link rfl rfl rfl

/-- R116: the address after the release lies in its range. -/
theorem strapAddress_toNat (straps : BitVec 4) : (0x80 + straps.setWidth 8 : Byte).toNat = 0x80 + straps.toNat := by
  bv_omega

/-- Every row keeps the law of the link. -/
theorem exec_linkLaw (c : Instr) (s t : State) (hexec : exec c s = .next t) (h : LinkLaw s) : LinkLaw t := by
  have hready : LinkLaw s.ready := (ready_linkKept s).law h
  cases c <;> cases hexec
  case resetnAsserted => exact (linkLaw_iff _).2 ⟨⟨rfl, rfl, rfl⟩, h.2.2⟩
  case resetnReleased straps =>
    split_ifs
    · refine (linkLaw_iff _).2 ⟨((linkLaw_iff _).1 hready).1, ?_⟩
      have hstraps := straps.isLt
      simp only [UnitLaw, strapAddress_toNat]
      omega
    · exact hready
  case initialisationSweepEnd =>
    split_ifs with hinit
    · obtain ⟨haccord, hunit⟩ := (linkLaw_iff _).1 hready
      simp only [Bool.and_eq_true, decide_eq_true_eq] at hinit
      simp only [Accord, hinit.2] at haccord
      exact (linkLaw_iff _).2 ⟨⟨rfl, haccord.2⟩, hunit⟩
    · exact hready
  case frameStart | lineStart | pixel | lineEnd | frameEnd => exact inputSymbol_linkLaw h
  case packetReceived run =>
    split
    · exact LinkKept.law ⟨rfl, rfl, rfl, rfl, rfl, rfl, rfl⟩ hready
    · exact receivePacket_linkLaw run hready
  case watchdogExpiry =>
    split_ifs
    · exact expireWatchdog_linkLaw hready
    · exact hready
  case generatedFrameStart =>
    split
    · next hgen => exact beginGeneratedFrame_linkLaw hready (by rw [hgen]; nofun)
    · next hgen =>
      split
      · exact beginGeneratedFrame_linkLaw hready (by rw [hgen]; nofun)
      · exact hready
    · exact hready
  case generatedSymbol =>
    split
    · next hgen => exact generateSymbol_linkLaw hready (by rw [hgen]; nofun)
    · exact hready
  case relockSwitch =>
    split
    · exact enterLocked_linkLaw (((closeGap_linkKept _).law hready).2.2) rfl (.inr ⟨rfl, rfl⟩)
    · exact hready
  case applyTeardown =>
    refine LinkKept.law (s := s) ?_ h
    split_ifs <;> exact .of_link rfl rfl rfl
  case applyCommit => exact LinkKept.law (s := s) (.of_link (by simp) (by simp) (by simp)) h
  case blinkToggle => exact LinkKept.law (s := s) (.of_link (by simp) (by simp) (by simp)) h
  case sessionExpiry => exact (sessionExpiry_linkKept s.quiet).law h
  case takeHeadPacket =>
    split
    · exact hready
    all_goals exact (takeHead_linkKept _).law hready
  case cellStep => exact (cellStep_linkKept s).law h
  case glyphStep => exact (glyphStep_linkKept s).law h
  case syncCommit => exact (syncCommit_linkKept s).law h
  case closeSession => exact (withCommand_linkKept fun e x ops => closeSession_linkKept e x ops _).law h
  case clearCounters => exact (withCommand_linkKept fun e x ops => clearCounters_linkKept e x ops _).law h
  case resetDevice => exact (withCommand_linkKept fun e x ops => resetDevice_linkKept e x ops _).law h
  case claimWindow => exact (runCommand_linkKept claimWindow_leavesLink).law h
  case readStatus => exact (runCommand_linkKept readStatus_leavesLink).law h
  case deviceSettings => exact (runCommand_linkKept deviceSettings_leavesLink).law h
  case writeCells => exact (runCommand_linkKept writeCells_leavesLink).law h
  case writeGlyphRows => exact (runCommand_linkKept writeGlyphRows_leavesLink).law h
  all_goals
    refine (runCommand_linkKept fun e x ops => ?_).law h
    generalize s.ready = u
    simp only [keepalive, identify, openSessionCommand, releaseWindow, setWindow, moveWindow, setScroll,
      setCursor, setBorder, setKey, setSplit, clearPart, showWindow, hideWindow, readWindow, readOrder, fillCells,
      copyCells, readCells, findCells, clearBank, readGlyph, setPalette, setColours, setOptions, readPalette,
      readColours, commit, discard]
    repeat' split
    all_goals simp

end LinkRows

/-- Settles O59. -/
theorem stepsKeepTheModeAndWatchdog : Obligations.StepsKeepTheModeAndWatchdog := by
  intro s t hstep h
  have hlaw : LinkLaw s := h
  unfold step at hstep
  split at hstep
  · cases hstep
    exact hlaw
  · next c rest _ => exact exec_linkLaw c { s with pending := rest } t hstep hlaw

end Sys2Proof.Machine

namespace Sys2Proof.Machine

/-! ### The release of RESETn and the end of the sweep (R116, R47, R67) -/

theorem exec_resetnReleased {s : State} (straps : BitVec 4) (hs : s.settled) (hreset : s.resetn = true) :
    exec (.resetnReleased straps) s =
      .next { s.quiet with resetn := false, unitAddress := 0x80 + straps.setWidth 8 } := by
  simp [exec, execResetnReleased, ready_of_settled s hs, hreset]

theorem exec_initialisationSweepEnd {s : State} (hs : s.settled) (hreset : s.resetn = false)
    (hlock : s.rx.lock = .init) :
    exec .initialisationSweepEnd s = .next { s.quiet with
      cells := [], glyphs := [], rx := { s.rx with lock := .search }, tx := { s.tx with mode := .pass } } := by
  simp [exec, execInitialisationSweepEnd, ready_of_settled s hs, hreset, hlock]

/-- Settles O5: an empty store reads as the clear cell and the row 0. -/
theorem releaseAndSweepStartThePart : Obligations.ReleaseAndSweepStartThePart := by
  refine ⟨fun straps s hs hreset => ⟨_, strapAddress_toNat straps, exec_resetnReleased straps hs hreset⟩,
    fun s hs hreset hlock => ⟨_, exec_initialisationSweepEnd hs hreset hlock, rfl, fun _ => rfl, fun _ _ _ => rfl⟩⟩

/-! ### The row of an input symbol, by output mode (R123, R131, R132, R141) -/

/-- The rows that take a symbol of the input stream. -/
theorem exec_of_symbolOf {c : Instr} {sym : Symbol} (hc : symbolOf c = some sym) (s : State) :
    exec c s = .next (inputSymbol sym s) := by
  cases c <;> cases hc <;> rfl

theorem symbolOf_ne_pk {c : Instr} {sym : Symbol} (hc : symbolOf c = some sym) (run : List Byte) : sym ≠ .pk run := by
  cases c <;> cases hc <;> nofun

theorem inputSymbol_bypass {s : State} (sym : Symbol) (hs : s.settled) (hmode : s.tx.mode = .bypass) :
    inputSymbol sym s = { s.quiet with linkOut := [sym], tx := s.tx.follow sym } := by
  simp only [inputSymbol, ready_of_settled s hs, quiet_tx, hmode, repeatSymbol_eq, quiet_linkOut, List.nil_append]

theorem inputSymbol_generate {s : State} (sym : Symbol) (hs : s.settled) (hmode : s.tx.mode = .generate) :
    inputSymbol sym s = receiveSymbol sym s.quiet := by
  simp only [inputSymbol, ready_of_settled s hs, quiet_tx, hmode]

theorem inputSymbol_await_fs {s : State} (hs : s.settled) (hmode : s.tx.mode = .await) :
    inputSymbol .fs s = putSymbol .fs { receiveSymbol .fs s.quiet with
      tx := { (receiveSymbol .fs s.quiet).tx with mode := .compose } } := by
  simp only [inputSymbol, ready_of_settled s hs, quiet_tx, hmode, if_true]

theorem inputSymbol_await_of_not_fs {s : State} {sym : Symbol} (hs : s.settled) (hmode : s.tx.mode = .await)
    (hsym : sym ≠ .fs) : inputSymbol sym s = receiveSymbol sym s.quiet := by
  simp only [inputSymbol, ready_of_settled s hs, quiet_tx, hmode, if_neg hsym]

theorem inputSymbol_output {s : State} (sym : Symbol) (hs : s.settled)
    (hmode : s.tx.mode = .pass ∨ s.tx.mode = .compose) :
    inputSymbol sym s = passSymbol s.rx.frame.pos sym (orderedClose (receiveSymbol sym) s.quiet) := by
  rcases hmode with hmode | hmode <;>
    simp only [inputSymbol, ready_of_settled s hs, quiet_tx, hmode, quiet_rx]

/-- Settles O6. -/
theorem bypassRepeatsTheInput : Obligations.BypassRepeatsTheInput := by
  intro s hs hlock hmode
  have hrow {c : Instr} {sym : Symbol} (hc : symbolOf c = some sym) :
      exec c s = .next { s.quiet with linkOut := [sym], tx := s.tx.follow sym } := by
    rw [exec_of_symbolOf hc, inputSymbol_bypass sym hs hmode]
  refine ⟨hrow (c := .frameStart) rfl, fun n => hrow (c := .lineStart n) rfl, fun c => hrow (c := .pixel c) rfl,
    hrow (c := .lineEnd) rfl, hrow (c := .frameEnd) (sym := .fe) rfl, fun run => ?_⟩
  simp only [exec, execPacketReceived, ready_of_settled s hs, quiet_rx, hlock]
  rfl

/-! ### DEVICE SETTINGS (R122) -/

/-- Check 2 of DEVICE SETTINGS (R122). -/
theorem operandsInRange_deviceSettings (enable a b c d ms : Byte) :
    operandsInRange .deviceSettings [enable, a, b, c, d, ms]
      = (decide (enable.toNat < 2) && decide (9999 < be16 a b * 65536 + be16 c d)
        && decide (be16 a b * 65536 + be16 c d < 100001) && decide (19 < ms.toNat) && decide (ms.toNat < 251)) := rfl

theorem deviceSettings_of_inRange {s : State} {e : Fin 4} {x : Executing} {enable a b c d ms : Byte}
    (h : operandsInRange .deviceSettings [enable, a, b, c, d, ms] = true) (hrole : (s.session e).role = .control) :
    deviceSettings e x [enable, a, b, c, d, ms] s =
      .done { s with settings := ⟨decide (enable = 1), be16 a b * 65536 + be16 c d, ms.toNat⟩ } [] := by
  simp only [operandsInRange_deviceSettings, Bool.and_eq_true, decide_eq_true_eq] at h
  obtain ⟨⟨⟨⟨henable, hlow⟩, hhigh⟩, hmin⟩, hmax⟩ := h
  have hrange : 10000 ≤ be32 a b c d ∧ be32 a b c d ≤ 100000 ∧ 20 ≤ ms.toNat ∧ ms.toNat ≤ 250 := by
    unfold be32
    omega
  simp only [deviceSettings, yesNo_of_lt henable, controlOnly_of_control e s _ hrole]
  exact if_pos hrange

/-- Settles O42. -/
theorem deviceSettingsAreReplacedTogether : Obligations.DeviceSettingsAreReplacedTogether := by
  intro s e x enable a b c d ms hat hrange hrole
  exact exec_of_verdict hat rfl (deviceSettings_of_inRange hrange hrole)

/-! ### The row of a packet (R115, R125) -/

section PacketRow

variable {s : State} {run : List Byte}

theorem exec_packetReceived (hs : s.settled) (hlock : s.rx.lock ≠ .init) :
    exec (.packetReceived run) s = .next (receivePacket run s.quiet) := by
  simp only [exec, execPacketReceived, ready_of_settled s hs]
  split
  · next h => exact absurd h hlock
  · rfl

/-- The state that a packet outside INIT finds at the check: counted where the gap has room for it (R115). -/
theorem receivePacket_counted (h : s.rx.gapPackets < 3) :
    receivePacket run s.quiet =
      match judgeRun run with
      | .overrun => discardOverfull s.counted
      | .bad => { s.counted with rx := { s.counted.rx with checkFailures := saturate s.rx.checkFailures } }
      | .good kind dest source seq payload => separate run kind dest source seq payload s.counted := by
  have hgap : ¬ Config.gapLimit ≤ s.quiet.rx.gapPackets := Nat.not_le.2 h
  rw [receivePacket, if_neg hgap]
  rfl

theorem receivePacket_excess (h : 3 ≤ s.rx.gapPackets) : receivePacket run s.quiet = discardOverfull s.quiet :=
  if_pos h

theorem exec_packet_overfull (hs : s.settled) (hlock : s.rx.lock ≠ .init)
    (h : 3 ≤ s.rx.gapPackets ∨ judgeRun run = .overrun) :
    exec (.packetReceived run) s =
      .next (discardOverfull (if 3 ≤ s.rx.gapPackets then s.quiet else s.counted)) := by
  rw [exec_packetReceived hs hlock]
  split_ifs with hgap
  · rw [receivePacket_excess hgap]
  · rw [receivePacket_counted (Nat.lt_of_not_le hgap), h.resolve_left hgap]

theorem exec_packet_good {kind dest source seq : Byte} {payload : List Byte}
    (h : s.takes run kind dest source seq payload) :
    exec (.packetReceived run) s = .next (separate run kind dest source seq payload s.counted) := by
  obtain ⟨hs, hlock, hgap, hgood⟩ := h
  rw [exec_packetReceived hs hlock, receivePacket_counted hgap, hgood]

theorem forwardIfOutput_outputs (h : s.tx.mode = .pass ∨ s.tx.mode = .compose) :
    forwardIfOutput run s.counted = s.passedOn run := by
  have hforwards : s.counted.tx.mode.forwards = true := by rcases h with h | h <;> exact congrArg _ h
  rw [forwardIfOutput, if_pos hforwards]
  cases hgap : s.tx.gap <;> simp [forwardPacket, emit, State.passedOn, State.counted, hgap]

theorem forwardIfOutput_discards (h : s.tx.mode = .generate ∨ s.tx.mode = .await) :
    forwardIfOutput run s.counted = s.counted := by
  have hforwards : s.counted.tx.mode.forwards = false := by rcases h with h | h <;> exact congrArg _ h
  rw [forwardIfOutput, hforwards]
  rfl

/-- R146: a broadcast joins the Command Queue while it holds fewer than four. -/
theorem admitBroadcast_of_room {u : State} (seq : Byte) (payload : List Byte) (h : u.commandQueue.length < 4) :
    admitBroadcast seq payload u = { u with
      commandQueue := u.commandQueue ++ [⟨none, seq, payload⟩]
      engine := if u.engine = .idle then .testing else u.engine } := by
  have hroom : u.commandQueue.length < Config.commandQueueCapacity := h
  rw [admitBroadcast, if_pos hroom]
  cases hengine : u.engine <;> simp [State.joinCommands, hengine]

theorem admitBroadcast_of_full {u : State} (seq : Byte) (payload : List Byte) (h : 4 ≤ u.commandQueue.length) :
    admitBroadcast seq payload u = u := if_neg (Nat.not_lt.2 h)

end PacketRow

/-! ### Packets discarded under R115 -/

theorem overfull_eq (t : Tracker) : t.overfull = if t.phase = .waiting then t else ⟨.waiting, none⟩ := by
  unfold Tracker.overfull
  cases t.phase <;> rfl

section Overfull

variable {u : State}

theorem discardOverfull_ignored (h : u.rx.lock = .search
      ∨ (u.rx.lock = .locked ∧ (u.rx.frame.judged = false ∨ u.rx.frame.damaged = true))
      ∨ (u.rx.lock = .holdover ∧ u.rx.acquired ≠ none)) : discardOverfull u = u := by
  rcases h with hlock | ⟨hlock, hframe⟩ | ⟨hlock, hacquired⟩
  · simp only [discardOverfull, hlock]
  · have hclean : u.rx.frame.clean = false := by rcases hframe with h | h <;> simp [LockedFrame.clean, h]
    simp [discardOverfull, hlock, hclean]
  · obtain ⟨g, hg⟩ := Option.ne_none_iff_exists'.1 hacquired
    simp only [discardOverfull, hlock, hg]

theorem discardOverfull_measuring (h : u.rx.lock = .acquire ∨ (u.rx.lock = .holdover ∧ u.rx.acquired = none)) :
    discardOverfull u = { u with rx := { u.rx with
      tracker := if u.rx.tracker.phase = .waiting then u.rx.tracker else ⟨.waiting, none⟩ } } := by
  rcases h with hlock | ⟨hlock, hacquired⟩
  · simp only [discardOverfull, hlock, overfull_eq]
  · simp only [discardOverfull, hlock, hacquired, overfull_eq]

theorem discardOverfull_clean (hlock : u.rx.lock = .locked) (hjudged : u.rx.frame.judged = true)
    (hdamaged : u.rx.frame.damaged = false) : discardOverfull u = framingError u := by
  simp [discardOverfull, hlock, LockedFrame.clean, hjudged, hdamaged]

end Overfull

theorem saturate_eq (w : Word) : saturate w = if w = 0xFFFF then 0xFFFF else w + 1 := by
  unfold saturate
  split_ifs with h
  · exact h
  · rfl

/-- The state with this many packets taken in the gap in hand (R115). -/
def State.withGapPackets (s : State) (n : Nat) : State := { s with rx := { s.rx with gapPackets := n } }

/-- The drawing does not go on after a framing error (R93). -/
theorem stopped_ne_drawing (f : FrameState) : (if f = .drawing then FrameState.stopped else f) ≠ .drawing := by
  cases f <;> decide

/-- Settles O19: a discarded packet is nothing, the end of a measured frame, or a framing error. -/
theorem badAndExcessPacketsAreDiscarded : Obligations.BadAndExcessPacketsAreDiscarded := by
  intro s run hs hlock
  refine ⟨fun hgap hbad => ?bad, fun hover => ?overfull⟩
  case bad => rw [exec_packetReceived hs hlock, receivePacket_counted hgap, hbad, ← saturate_eq]
  case overfull =>
    intro u
    have hrow : exec (.packetReceived run) s = .next (discardOverfull u) := exec_packet_overfull hs hlock hover
    have hu : ∃ n, u = s.quiet.withGapPackets n := by
      simp only [u]
      split_ifs
      · exact ⟨s.rx.gapPackets, rfl⟩
      · exact ⟨s.rx.gapPackets + 1, rfl⟩
    clear_value u
    obtain ⟨n, rfl⟩ := hu
    rw [hrow]
    refine ⟨fun h => congrArg _ (discardOverfull_ignored h), fun h => congrArg _ (discardOverfull_measuring h),
      fun hlocked hjudged hdamaged => ⟨_, rfl, ?_⟩⟩
    rw [discardOverfull_clean (u := s.quiet.withGapPackets n) hlocked hjudged hdamaged]
    cases hrun : s.rx.run with
    | false =>
      rw [framingError_of_run_clear (s := s.quiet.withGapPackets n) hrun]
      exact ⟨saturate_eq _, rfl, rfl, rfl, rfl, rfl, fun _ => ⟨hlocked, rfl, stopped_ne_drawing _, rfl, rfl⟩, nofun⟩
    | true =>
      rw [framingError_of_run_set (s := s.quiet.withGapPackets n) hrun]
      simp only [reportLockChange_frame]
      exact ⟨saturate_eq _, rfl, rfl, rfl, rfl, rfl, nofun, fun _ => ⟨trivial, trivial, rfl, trivial, rfl⟩⟩

/-- Settles O20. -/
theorem packetsForOthersAndBroadcasts : Obligations.PacketsForOthersAndBroadcasts := by
  refine ⟨fun s run kind dest source seq payload htakes hother => ?others,
    fun s run source seq payload htakes hunit hbypass => ?broadcast⟩
  case others =>
    have hseparate : separate run kind dest source seq payload s.counted = forwardIfOutput run s.counted := by
      have hself : ¬ (kind = kindCommand ∧ dest = s.counted.unitAddress) := fun h => by
        rcases hother with hkind | ⟨hdest, -⟩
        · exact hkind h.1
        · exact hdest h.2
      have hbroadcast : ¬ (kind = kindCommand ∧ dest = 0x00) := fun h => by
        rcases hother with hkind | ⟨-, hdest⟩
        · exact hkind h.1
        · exact hdest h.2
      rw [separate, if_neg hself, if_neg hbroadcast]
    rw [exec_packet_good htakes, hseparate]
    exact ⟨fun h => by rw [forwardIfOutput_outputs h], fun h => by rw [forwardIfOutput_discards h]⟩
  case broadcast =>
    intro u
    have hforward : forwardIfOutput run s.counted = u := by
      simp only [u]
      split_ifs with hmode
      · exact forwardIfOutput_outputs hmode
      · refine forwardIfOutput_discards ?_
        cases h : s.tx.mode <;> simp_all
    have hself : ¬ ((0xC1 : Byte) = kindCommand ∧ (0 : Byte) = s.counted.unitAddress) := fun h => hunit h.2.symm
    have hseparate : separate run 0xC1 0 source seq payload s.counted = admitBroadcast seq payload u := by
      rw [separate, if_neg hself, if_pos ⟨rfl, rfl⟩, hforward]
    have hkept : u.commandQueue = s.commandQueue ∧ u.engine = s.engine := by
      simp only [u]
      split_ifs <;> exact ⟨rfl, rfl⟩
    obtain ⟨hqueue, hengine⟩ := hkept
    rw [exec_packet_good htakes, hseparate]
    constructor
    · intro hroom
      rw [admitBroadcast_of_room seq payload (hqueue ▸ hroom), hqueue, hengine]
    · intro hfull
      rw [admitBroadcast_of_full seq payload (hqueue ▸ hfull)]

end Sys2Proof.Machine

namespace Sys2Proof.Machine

/-! ### What a row of the link leaves, and where it leaves the link (R132 to R137) -/

/-- Between `s` and `t` the Scene Store, the stores and the settings stand, the output stands in the same line, and the
receiver, the Compositor and the output mode become these. -/
structure Linked (rx : Receiver) (comp : Compositor) (mode : OutputMode) (s t : State) : Prop
    extends Untouched True s t where
  rx : t.rx = rx
  comp : t.comp = comp
  mode : t.tx.mode = mode
  lineOpen : t.tx.lineOpen = s.tx.lineOpen
  linePixels : t.tx.linePixels = s.tx.linePixels

section Linked

variable {rx : Receiver} {comp : Compositor} {mode : OutputMode} {s t u : State}

theorem linked_refl (s : State) : Linked s.rx s.comp s.tx.mode s s := ⟨.refl, rfl, rfl, rfl, rfl, rfl⟩

theorem Linked.trans {rx' : Receiver} {comp' : Compositor} {mode' : OutputMode} (h : Linked rx' comp' mode' s t)
    (g : Linked rx comp mode t u) : Linked rx comp mode s u :=
  ⟨h.toUntouched.trans g.toUntouched, g.rx, g.comp, g.mode, g.lineOpen.trans h.lineOpen,
    g.linePixels.trans h.linePixels⟩

/-- The state with another receiver, Compositor and output mode. -/
def State.withLink (s : State) (rx : Receiver) (comp : Compositor) (mode : OutputMode) : State :=
  { s with rx := rx, comp := comp, tx := { s.tx with mode := mode } }

theorem withLink_linked (h : rx.checkFailures = s.rx.checkFailures) : Linked rx comp mode s (s.withLink rx comp mode) :=
  ⟨untouched_link h, rfl, rfl, rfl, rfl, rfl⟩

@[simp] theorem closeGap_lineOpen (s : State) : (closeGap s).tx.lineOpen = s.tx.lineOpen := by
  unfold closeGap wakeEngine
  dsimp only
  repeat' split
  all_goals rfl

@[simp] theorem closeGap_linePixels (s : State) : (closeGap s).tx.linePixels = s.tx.linePixels := by
  unfold closeGap wakeEngine
  dsimp only
  repeat' split
  all_goals rfl

theorem Linked.closeGap (h : Linked rx comp mode s t) : Linked rx comp mode s (closeGap t) :=
  ⟨h.toUntouched.trans closeGap_untouched, by simp [h.rx], by simp [h.comp], by simp [h.mode], by simp [h.lineOpen],
    by simp [h.linePixels]⟩

theorem Linked.reportLockChange (h : Linked rx comp mode s t) : Linked rx comp mode s (reportLockChange t) :=
  ⟨h.toUntouched.trans reportLockChange_untouched, by simp [h.rx], by simp [h.comp], by simp [h.mode],
    by simp [h.lineOpen], by simp [h.linePixels]⟩

/-- The row of a symbol and the close of the gap before it, in either order (R137): what holds of the symbol's act, and that the
close and what a frame start owes keep, holds in the end. -/
theorem orderedClose_rule {J : State → Prop} {act : State → State}
    (hact : ∀ u, Linked s.rx s.comp s.tx.mode s u → u.sessions = s.sessions → J (act u))
    (hsettle : ∀ u, J u → J (settleSome u)) (hclose : ∀ u, J u → J (closeGap u)) : J (orderedClose act s) := by
  have hself : Linked s.rx s.comp s.tx.mode s s := linked_refl s
  have hdrawn : Linked s.rx s.comp s.tx.mode s s.draw.2 := ⟨untouched_link, rfl, rfl, rfl, rfl, rfl⟩
  unfold orderedClose
  dsimp only
  split
  · split_ifs
    · exact hclose _ (hsettle _ (hact _ hdrawn rfl))
    · exact hact _ hdrawn.closeGap (by simp)
    · exact hact _ hself.closeGap (by simp)
  · exact hact s hself rfl

theorem orderedClose_linked {act : State → State} (howed : s.nothingOwed)
    (hact : ∀ u, Linked s.rx s.comp s.tx.mode s u → Linked rx comp mode u (act u)) :
    Linked rx comp mode s (orderedClose act s) :=
  orderedClose_rule (fun u hu _ => hu.trans (hact u hu))
    (fun u hu => by rwa [settleSome_of_nothingOwed (hu.nothingOwed trivial howed)]) fun _ hu => hu.closeGap

/-- A symbol that brings no notice about leaves the sessions as they are. -/
theorem orderedClose_sessions {act : State → State} (howed : s.nothingOwed)
    (hact : ∀ u, Linked s.rx s.comp s.tx.mode s u → Linked rx comp mode u (act u) ∧ (act u).sessions = u.sessions) :
    (orderedClose act s).sessions = s.sessions := by
  have hboth : Linked rx comp mode s (orderedClose act s) ∧ (orderedClose act s).sessions = s.sessions := by
    refine orderedClose_rule (J := fun u => Linked rx comp mode s u ∧ u.sessions = s.sessions)
      (fun u hu hsessions => ?_) (fun u hu => ?_) fun u hu => ?_
    · obtain ⟨hlinked, hkept⟩ := hact u hu
      exact ⟨hu.trans hlinked, hkept.trans hsessions⟩
    · rwa [settleSome_of_nothingOwed (hu.1.nothingOwed trivial howed)]
    · exact ⟨hu.1.closeGap, by simp [hu.2]⟩
  exact hboth.2

/-- A gap that takes no entries, or none, closes without a free choice (R135). -/
theorem orderedClose_of_not_blanking {act : State → State} (h : ∀ p, s.tx.gap = some p → p.kind ≠ .blanking) :
    orderedClose act s = act { s with tx := { s.tx with gap := none } } := by
  unfold orderedClose
  dsimp only
  split
  · next p hgap =>
    have hkind := h p hgap
    rw [if_neg hkind]
    simp [closeGap, hgap, gapRoom, hkind]
  · next hgap =>
    have hsame : { s with tx := { s.tx with gap := none } } = s := by rw [← hgap]
    rw [hsame]

end Linked

/-! ### The row of a symbol in PASS and COMPOSE -/

/-- The part behind an input symbol that is received, with the gap before it closed (R132, R137). -/
def State.received (s : State) (sym : Symbol) : State := orderedClose (receiveSymbol sym) s.quiet

/-- R132, R133: but for a pixel that the Compositor draws, a symbol is output as it came. -/
theorem exec_passes {s : State} {c : Instr} {sym : Symbol} (hc : symbolOf c = some sym) (hs : s.settled)
    (hmode : s.tx.mode = .pass ∨ s.tx.mode = .compose)
    (hundrawn : ∀ p, sym = .px p → (s.received sym).rx.lock ≠ .locked ∨ (s.received sym).comp.frame ≠ .drawing) :
    exec c s = .next (putSymbol sym (s.received sym)) := by
  rw [exec_of_symbolOf hc, inputSymbol_output sym hs hmode]
  cases sym
  case px p =>
    have hnone : drawnAt s.rx.frame.pos (s.received (.px p)) = none := by
      rcases hundrawn p rfl with hlock | hframe
      · unfold drawnAt
        split
        · contradiction
        · rfl
      · exact drawnAt_of_not_drawing _ hframe
    simp only [passSymbol]
    rw [show orderedClose (receiveSymbol (.px p)) s.quiet = s.received (.px p) from rfl, hnone]
  all_goals rfl

section Received

variable {s : State} {c : Instr} {sym : Symbol} {rx : Receiver} {comp : Compositor} {mode : OutputMode}

theorem quiet_linked (s : State) : Linked s.rx s.comp s.tx.mode s s.quiet := ⟨untouched_link, rfl, rfl, rfl, rfl, rfl⟩

theorem received_linked (hs : s.settled)
    (hact : ∀ u, Linked s.rx s.comp s.tx.mode s u → Linked rx comp mode u (receiveSymbol sym u)) :
    Linked rx comp mode s (s.received sym) :=
  (quiet_linked s).trans (orderedClose_linked (nothingOwed_of_settled (settled_quiet s hs)) fun u hu =>
    hact u ((quiet_linked s).trans hu))

theorem received_sessions (hs : s.settled)
    (hact : ∀ u, Linked s.rx s.comp s.tx.mode s u →
      Linked rx comp mode u (receiveSymbol sym u) ∧ (receiveSymbol sym u).sessions = u.sessions) :
    (s.received sym).sessions = s.sessions :=
  orderedClose_sessions (nothingOwed_of_settled (settled_quiet s hs)) fun u hu => hact u ((quiet_linked s).trans hu)

/-- The row of a symbol that brings no notice about: it writes the receiver, the Compositor and the output mode, and is
output as it came. -/
theorem exec_taken (hc : symbolOf c = some sym) (hs : s.settled) (hmode : s.tx.mode = .pass ∨ s.tx.mode = .compose)
    (hundrawn : ∀ p, sym = .px p → rx.lock ≠ .locked ∨ comp.frame ≠ .drawing)
    (hfailures : rx.checkFailures = s.rx.checkFailures)
    (hact : ∀ u, Linked s.rx s.comp s.tx.mode s u → receiveSymbol sym u = u.withLink rx comp mode) :
    ∃ u, exec c s = .next (putSymbol sym u) ∧ Linked rx comp mode s u ∧ u.sessions = s.sessions := by
  have hlink (u : State) (hu : Linked s.rx s.comp s.tx.mode s u) : Linked rx comp mode u (receiveSymbol sym u) := by
    rw [hact u hu]
    exact withLink_linked (by rw [hfailures, hu.rx])
  have hreceived : Linked rx comp mode s (s.received sym) := received_linked hs hlink
  refine ⟨_, exec_passes hc hs hmode ?_, hreceived, received_sessions hs fun u hu => ⟨hlink u hu, ?_⟩⟩
  · rw [hreceived.rx, hreceived.comp]
    exact hundrawn
  · rw [hact u hu]
    rfl

end Received

/-! ### Symbols in SEARCH, ACQUIRE and HOLDOVER (R117, R121, R123) -/

section Acquire

variable {s u : State} {c : Instr} {sym : Symbol} {t : Tracker} {g : Geometry}

/-- R121: every FS restarts the watchdog. -/
def State.watchdogAfter (s : State) (sym : Symbol) : Option Nat :=
  if sym = .fs then some s.settings.watchdog else s.rx.watchdog

theorem receiveSymbol_acquire (hlock : u.rx.lock = .acquire) (ht : u.rx.tracker.symbol sym = (t, none)) :
    receiveSymbol sym u = u.withLink { u.rx with tracker := t, watchdog := u.watchdogAfter sym, gapPackets := 0 }
      u.comp u.tx.mode := by
  simp only [receiveSymbol, hlock, acquireSymbol, ht, State.watchdogAfter]
  split_ifs <;> rfl

/-- R117, R118: the second matching frame enters LOCKED at its FE. -/
theorem receiveSymbol_acquire_locks (hlock : u.rx.lock = .acquire) (hsym : sym ≠ .fs)
    (ht : u.rx.tracker.symbol sym = (t, some g)) :
    receiveSymbol sym u = reportLockChange (u.withLink { u.rx with
        lock := .locked, geometry := some g, tracker := Tracker.reset, acquired := none, run := false
        frame := ⟨true, .afterFE, false⟩, gapPackets := 0 } u.comp .compose) := by
  simp only [receiveSymbol, hlock, acquireSymbol, ht, if_neg hsym]
  rfl

theorem receiveSymbol_search_fs (hlock : u.rx.lock = .search) :
    receiveSymbol .fs u = u.withLink { u.rx with
      lock := .acquire, tracker := ⟨.measuring Measure.start, none⟩, watchdog := some u.settings.watchdog
      gapPackets := 0 } u.comp u.tx.mode := by
  simp only [receiveSymbol, hlock]
  rfl

theorem receiveSymbol_holdover (hlock : u.rx.lock = .holdover) (hacquired : u.rx.acquired = none)
    {success : Option Geometry} (ht : u.rx.tracker.symbol sym = (t, success)) :
    receiveSymbol sym u = u.withLink { u.rx with
      tracker := t, acquired := success, watchdog := u.watchdogAfter sym, gapPackets := 0 } u.comp u.tx.mode := by
  simp only [receiveSymbol, hlock, holdoverSymbol, State.watchdogAfter]
  split_ifs <;> simp only [restartWatchdog_rx, hacquired, ht] <;> rfl

/-- R124: after its success the background acquisition takes no symbol. -/
theorem receiveSymbol_holdover_acquired (hlock : u.rx.lock = .holdover) (hacquired : u.rx.acquired ≠ none) :
    receiveSymbol sym u = u.withLink { u.rx with watchdog := u.watchdogAfter sym, gapPackets := 0 }
      u.comp u.tx.mode := by
  obtain ⟨g, hg⟩ := Option.ne_none_iff_exists'.1 hacquired
  simp only [receiveSymbol, hlock, holdoverSymbol, State.watchdogAfter]
  split_ifs <;> simp only [restartWatchdog_rx, hg] <;> rfl

/-- The row of a symbol in ACQUIRE that locks nothing (R117, R121). -/
theorem exec_acquire (hc : symbolOf c = some sym) (hs : s.settled) (hlock : s.rx.lock = .acquire)
    (hmode : s.tx.mode = .pass) (ht : s.rx.tracker.symbol sym = (t, none)) :
    ∃ u, exec c s = .next u
      ∧ u.rx = { s.rx with tracker := t, watchdog := s.watchdogAfter sym, gapPackets := 0 }
      ∧ u.scene = s.scene ∧ u.sessions = s.sessions ∧ u.comp = s.comp ∧ u.tx.mode = .pass
      ∧ u.linkOut.getLast? = some sym := by
  obtain ⟨u, hexec, hu, hsessions⟩ := exec_taken (comp := s.comp) (mode := s.tx.mode)
    (rx := { s.rx with tracker := t, watchdog := s.watchdogAfter sym, gapPackets := 0 }) hc hs (.inl hmode)
    (fun _ _ => .inl (by simp [hlock])) rfl fun u hu => by
      rw [receiveSymbol_acquire (hu.rx ▸ hlock) (hu.rx ▸ ht), hu.rx, hu.comp, hu.mode, State.watchdogAfter,
        hu.settings, hu.rx]
      rfl
  exact ⟨_, hexec, by simp [hu.rx], by simp [hu.scene trivial], by simp [hsessions], by simp [hu.comp],
    by simp [hu.mode, hmode], by simp⟩

end Acquire

end Sys2Proof.Machine

namespace Sys2Proof.Machine

/-! ### The acquisition tracker (R113, R117) -/

section Tracker

variable {m m' : Measure} {candidate : Option Geometry} {sym : Symbol} {g : Geometry}

theorem symbol_fs_measuring (m : Measure) (candidate : Option Geometry) :
    Tracker.symbol ⟨.measuring m, candidate⟩ .fs = (⟨.measuring Measure.start, none⟩, none) := rfl

theorem symbol_fs_between {t : Tracker} (h : t.phase = .gapAfter ∨ t.phase = .waiting) :
    t.symbol .fs = (⟨.measuring Measure.start, t.candidate⟩, none) := by
  rcases h with h | h <;> simp [Tracker.symbol, h]

theorem symbol_of_gapAfter {t : Tracker} (hfs : sym ≠ .fs) (hpk : ∀ run, sym ≠ .pk run) (h : t.phase = .gapAfter) :
    t.symbol sym = (⟨.waiting, none⟩, none) := by
  cases sym
  case fs => exact absurd rfl hfs
  case pk run => exact absurd rfl (hpk run)
  all_goals simp [Tracker.symbol, h, Tracker.reset]

theorem symbol_of_waiting {t : Tracker} (hfs : sym ≠ .fs) (h : t.phase = .waiting) : t.symbol sym = (t, none) := by
  cases sym
  case fs => exact absurd rfl hfs
  all_goals simp [Tracker.symbol, h]

/-- Within a frame the tracker follows the measure, but at the frame's FE. -/
theorem symbol_follows (hfe : sym ≠ .fe) (h : m.symbol sym = some m') :
    Tracker.symbol ⟨.measuring m, candidate⟩ sym = (⟨.measuring m', candidate⟩, none) := by
  cases sym
  case fs => cases h
  case fe => exact absurd rfl hfe
  case pk run =>
    cases h
    rfl
  all_goals simp [Tracker.symbol, h]

/-- A symbol that departs from the frame form drops the frame and the candidate. -/
theorem symbol_departs (hfs : sym ≠ .fs) (hfe : sym ≠ .fe) (h : m.symbol sym = none) :
    Tracker.symbol ⟨.measuring m, candidate⟩ sym = (⟨.waiting, none⟩, none) := by
  cases sym
  case fs => exact absurd rfl hfs
  case fe => exact absurd rfl hfe
  case pk run => cases h
  all_goals simp [Tracker.symbol, h, Tracker.reset]

/-- Only an FE completes a second matching frame. -/
theorem symbol_success {t t' : Tracker} {g : Geometry} (h : t.symbol sym = (t', some g)) : sym = .fe := by
  by_contra hfe
  have hnone : (t.symbol sym).2 = none := by
    unfold Tracker.symbol
    split
    case h_6 => exact absurd rfl hfe
    case h_7 => split <;> rfl
    all_goals rfl
  rw [h] at hnone
  cases hnone

theorem withinLimits_iff (g : Geometry) : g.withinLimits = true ↔
    64 ≤ g.w ∧ g.w ≤ 4096 ∧ 32 ≤ g.h ∧ g.h ≤ 2304 ∧ g.h + 2 ≤ g.t ∧ g.t ≤ 4096 := by
  simp [Geometry.withinLimits, and_assoc]

/-- The geometry that a measure stands for. -/
def Measure.geometry (m : Measure) : Geometry := ⟨m.w, m.h, m.l0, m.next⟩

theorem finish_wellFormed (hline : m.line = none) (h : m.geometry.withinLimits = true) :
    m.finish = some m.geometry := by
  simp only [Measure.finish, hline]
  exact if_pos h

theorem finish_illFormed (h : m.line ≠ none ∨ ¬ m.geometry.withinLimits = true) : m.finish = none := by
  unfold Measure.finish
  cases hline : m.line with
  | some l => rfl
  | none => exact if_neg (h.resolve_left fun hne => hne hline)

theorem symbol_fe_matches (h : m.finish = some g) (hcandidate : candidate = some g) :
    Tracker.symbol ⟨.measuring m, candidate⟩ .fe = (⟨.waiting, none⟩, some g) := by
  simp [Tracker.symbol, h, hcandidate, Tracker.reset]

theorem symbol_fe_candidate (h : m.finish = some g) (hcandidate : candidate ≠ some g) :
    Tracker.symbol ⟨.measuring m, candidate⟩ .fe = (⟨.gapAfter, some g⟩, none) := by
  simp [Tracker.symbol, h, hcandidate]

theorem symbol_fe_illFormed (h : m.finish = none) :
    Tracker.symbol ⟨.measuring m, candidate⟩ .fe = (⟨.waiting, none⟩, none) := by
  simp [Tracker.symbol, h, Tracker.reset]

end Tracker

/-! ### The rows of ACQUIRE and HOLDOVER (R117, R123, R124) -/

section Rows

variable {s : State} {c : Instr} {sym : Symbol} {g : Geometry}

theorem exec_search_fs (hs : s.settled) (hlock : s.rx.lock = .search) (hmode : s.tx.mode = .pass) :
    ∃ u, exec .frameStart s = .next u
      ∧ u.rx = { s.rx with
          lock := .acquire, tracker := ⟨.measuring ⟨0, none, 0, 0, 0, false⟩, none⟩
          watchdog := some s.settings.watchdog, gapPackets := 0 }
      ∧ u.scene = s.scene ∧ u.sessions = s.sessions ∧ u.comp = s.comp ∧ u.tx.mode = .pass
      ∧ u.linkOut.getLast? = some .fs := by
  obtain ⟨u, hexec, hu, hsessions⟩ := exec_taken (c := .frameStart) (sym := .fs) (comp := s.comp) (mode := s.tx.mode)
    (rx := { s.rx with
      lock := .acquire, tracker := ⟨.measuring Measure.start, none⟩, watchdog := some s.settings.watchdog
      gapPackets := 0 }) rfl hs (.inl hmode) nofun rfl fun u hu => by
        rw [receiveSymbol_search_fs (hu.rx ▸ hlock), hu.rx, hu.comp, hu.mode, hu.settings]
  exact ⟨_, hexec, by simp [hu.rx, Measure.start], by simp [hu.scene trivial], by simp [hsessions], by simp [hu.comp],
    by simp [hu.mode, hmode], by simp⟩

/-- The receiver behind the second matching frame (R118). -/
def Receiver.locking (rx : Receiver) (g : Geometry) : Receiver :=
  { rx with
    lock := .locked, geometry := some g, tracker := Tracker.reset, acquired := none, run := false
    frame := ⟨true, .afterFE, false⟩, gapPackets := 0 }

/-- The row of the FE that locks (R117, R118, R128). -/
theorem exec_locks {t : Tracker} (hs : s.settled) (hlock : s.rx.lock = .acquire) (hmode : s.tx.mode = .pass)
    (ht : s.rx.tracker.symbol .fe = (t, some g)) :
    exec .frameEnd s = .next (putSymbol .fe (s.received .fe))
      ∧ Linked (s.rx.locking g) s.comp .compose s (s.received .fe) := by
  refine ⟨exec_passes rfl hs (.inl hmode) nofun, received_linked hs fun u hu => ?_⟩
  have hfe : Symbol.fe ≠ .fs := nofun
  rw [receiveSymbol_acquire_locks (hu.rx ▸ hlock) hfe (hu.rx ▸ ht), hu.rx, hu.comp]
  exact Linked.reportLockChange (withLink_linked (by rw [hu.rx]; rfl))

/-- The row of a symbol in HOLDOVER: nothing is output (R123). -/
theorem exec_holdover {t : Tracker} {success : Option Geometry} (hc : symbolOf c = some sym) (hs : s.settled)
    (hlock : s.rx.lock = .holdover) (hmode : s.tx.mode = .generate) (hacquired : s.rx.acquired = none)
    (ht : s.rx.tracker.symbol sym = (t, success)) :
    exec c s = .next { s.quiet with rx := { s.rx with
      tracker := t, acquired := success, watchdog := s.watchdogAfter sym, gapPackets := 0 } } := by
  rw [exec_of_symbolOf hc, inputSymbol_generate sym hs hmode,
    receiveSymbol_holdover (u := s.quiet) hlock hacquired ht]
  rfl

theorem exec_holdover_acquired (hc : symbolOf c = some sym) (hs : s.settled) (hlock : s.rx.lock = .holdover)
    (hmode : s.tx.mode = .generate) (hacquired : s.rx.acquired ≠ none) :
    exec c s = .next { s.quiet with rx := { s.rx with watchdog := s.watchdogAfter sym, gapPackets := 0 } } := by
  rw [exec_of_symbolOf hc, inputSymbol_generate sym hs hmode,
    receiveSymbol_holdover_acquired (u := s.quiet) hlock hacquired]
  rfl

end Rows

/-- Settles O7. -/
theorem acquireMeasuresTheFrames : Obligations.AcquireMeasuresTheFrames := by
  refine ⟨fun s hs hlock hmode => exec_search_fs hs hlock hmode,
    fun s m candidate hs hlock hmode htracker => ?measuring, fun s c sym hc hs hlock hmode => ?between,
    fun s c sym hc hs hlock hmode => ?holdover⟩
  case measuring =>
    intro passes
    have hpasses {c : Instr} {sym : Symbol} {t : Tracker} (hc : symbolOf c = some sym) (hfs : sym ≠ .fs)
        (ht : Tracker.symbol ⟨.measuring m, candidate⟩ sym = (t, none)) : passes c sym t := by
      obtain ⟨u, hexec, hrx, hrest⟩ := exec_acquire hc hs hlock hmode (by rw [htracker]; exact ht)
      exact ⟨u, hexec, by simpa [State.watchdogAfter, hfs] using hrx, hrest⟩
    have hfollows {c : Instr} {sym : Symbol} {m' : Measure} (hc : symbolOf c = some sym) (hfs : sym ≠ .fs)
        (hfe : sym ≠ .fe) (h : m.symbol sym = some m') : passes c sym ⟨.measuring m', candidate⟩ :=
      hpasses hc hfs (symbol_follows hfe h)
    have hdeparts {c : Instr} {sym : Symbol} (hc : symbolOf c = some sym) (hfs : sym ≠ .fs) (hfe : sym ≠ .fe)
        (h : m.symbol sym = none) : passes c sym ⟨.waiting, none⟩ := hpasses hc hfs (symbol_departs hfs hfe h)
    refine ⟨fun n hline hn => hfollows rfl nofun nofun ?_, fun n hn => hdeparts rfl nofun nofun ?_,
      fun c n k hline => hfollows rfl nofun nofun ?_, fun c hline => hdeparts rfl nofun nofun ?_,
      fun n hline => hfollows rfl nofun nofun ?_, fun n k hline hfirst => hfollows rfl nofun nofun ?_,
      fun n k hline hfirst hended hwidth => hfollows rfl nofun nofun ?_,
      fun n k hline hfirst hwrong => hdeparts rfl nofun nofun ?_, fun hline => hdeparts rfl nofun nofun ?_⟩
    · simp [Measure.symbol, hline, hn]
    · cases hline : m.line with
      | some l => simp [Measure.symbol, hline]
      | none => simp [Measure.symbol, hline, hn.resolve_left fun hne => hne hline]
    · simp [Measure.symbol, hline]
    · simp [Measure.symbol, hline]
    · simp [Measure.symbol, hline, Measure.lineEnd]
    · simp [Measure.symbol, hline, Measure.lineEnd, hfirst]
    · simp [Measure.symbol, hline, Measure.lineEnd, hfirst, hended, hwidth]
    · have hwrong' : m.ended = true ∨ k + 1 ≠ m.w := hwrong.imp_right Ne.symm
      simp [Measure.symbol, hline, Measure.lineEnd, hfirst, hwrong']
    · simp [Measure.symbol, hline]
  case between =>
    intro passes
    have hpasses {t : Tracker} (ht : s.rx.tracker.symbol sym = (t, none)) : passes t (s.watchdogAfter sym) :=
      exec_acquire hc hs hlock hmode ht
    refine ⟨?_, ?_, fun hfs hphase => ?_, fun hfs hphase => ?_⟩
    · rintro rfl ⟨m, candidate, htracker⟩
      exact hpasses (by rw [htracker]; exact symbol_fs_measuring m candidate)
    · rintro rfl hphase
      exact hpasses (symbol_fs_between hphase)
    · simpa [State.watchdogAfter, hfs] using hpasses (symbol_of_gapAfter hfs (symbolOf_ne_pk hc) hphase)
    · simpa [State.watchdogAfter, hfs] using hpasses (symbol_of_waiting hfs hphase)
  case holdover =>
    intro takes
    refine ⟨fun a u hacquired hsa hlocka hmodea htracker hexeca hlocku => ?_,
      fun hacquired => exec_holdover_acquired hc hs hlock hmode hacquired⟩
    rcases ht : s.rx.tracker.symbol sym with ⟨t, success⟩
    have hta : a.rx.tracker.symbol sym = (t, success) := by rw [htracker, ht]
    cases success with
    | none =>
      obtain ⟨v, hexec, hrx, -⟩ := exec_acquire hc hsa hlocka hmodea hta
      obtain rfl : v = u := Host.Outcome.next.inj (hexec.symm.trans hexeca)
      have hrow := exec_holdover hc hs hlock hmode hacquired ht
      rw [← hacquired] at hrow
      simp only [takes, hrx]
      exact hrow
    | some g =>
      obtain rfl : sym = .fe := symbol_success ht
      obtain rfl : c = .frameEnd := by cases c <;> cases hc; rfl
      obtain ⟨hexec, hlinked⟩ := exec_locks hsa hlocka hmodea hta
      obtain rfl := Host.Outcome.next.inj (hexec.symm.trans hexeca)
      simp [hlinked.rx, Receiver.locking] at hlocku

end Sys2Proof.Machine

namespace Sys2Proof.Machine

/-! ### The LOCK_CHANGED notice (R128, R159, R161) -/

section Report

variable {s u t : State} {c : Fin 4}

theorem controlEntry_of_control (h : s.control c) : s.controlEntry = some c := by
  have hpick : ∀ c : Fin 4, allEntries.find? (fun e => e == c) = some c := by decide
  have hsame : (fun e => (s.session e).isOpen && (s.session e).role == .control) = fun e => e == c := by
    funext e
    rw [Bool.eq_iff_iff]
    simpa using h e
  rw [State.controlEntry, hsame, hpick]

theorem controlEntry_of_noControl (h : s.noControl) : s.controlEntry = none := by
  refine List.find?_eq_none.2 fun e _ he => ?_
  simp only [Bool.and_eq_true, beq_iff_eq] at he
  exact h e he.1 he.2

theorem reportLockChange_of_noControl (h : s.noControl) : reportLockChange s = s := by
  rw [reportLockChange, controlEntry_of_noControl h]

/-- What an offer depends on: the queues, the engine and the Session Table (R159, R161). -/
structure SameDesk (s u : State) : Prop where
  replies : u.replyQueue = s.replyQueue
  sessions : u.sessions = s.sessions
  engine : u.engine = s.engine
  commands : u.commandQueue = s.commandQueue

theorem SameDesk.session (h : SameDesk s u) (e : Fin 4) : u.session e = s.session e := session_congr u s h.sessions e

theorem SameDesk.control (h : SameDesk s u) (hc : s.control c) : u.control c := fun a => by
  rw [h.session a]
  exact hc a

theorem SameDesk.noControl (h : SameDesk s u) (hc : s.noControl) : u.noControl := fun a ha => by
  rw [h.session a] at ha ⊢
  exact hc a ha

theorem SameDesk.offered (h : SameDesk s u) {payload : List Byte} (ho : noticeOffered u t c payload) :
    noticeOffered s t c payload := by
  have hdropped : noticeDropped u t c → noticeDropped s t c := fun ⟨hq, hflag, hothers⟩ =>
    ⟨hq.trans h.replies, by rw [hflag, h.session c], fun a ha => (hothers a ha).trans (h.session a)⟩
  have hroom : u.hasReplyRoom ↔ s.hasReplyRoom := by
    simp only [State.hasReplyRoom, State.reservations, h.replies, h.engine]
  have hcontested : u.contested → s.contested := by
    simp only [State.contested, State.testsSession, h.replies, h.engine, h.commands]
    exact id
  refine ⟨fun hr => ?_, fun hr => ?_⟩
  · refine (ho.1 (hroom.2 hr)).imp (fun ⟨hq, hs, he⟩ => ?_) fun ⟨hc, hd, he⟩ => ⟨hcontested hc, hdropped hd, he⟩
    exact ⟨by rw [hq, h.replies, h.session c], hs.trans h.sessions, he.trans h.engine⟩
  · obtain ⟨hd, he⟩ := ho.2 fun hu => hr (hroom.1 hu)
    exact ⟨hdropped hd, he.trans h.engine⟩

/-- A report made of a state with the desk of `s` is one offer to the CONTROL session of `s`, or nothing. -/
theorem reportLockChange_told (h : SameDesk s u) :
    (∀ c, s.control c → noticeOffered s (reportLockChange u) c (lockChangedPayload u.rx.lock u.rx.geometry))
    ∧ (s.noControl → (reportLockChange u).replyQueue = s.replyQueue ∧ (reportLockChange u).sessions = s.sessions
        ∧ (reportLockChange u).engine = s.engine) := by
  refine ⟨fun c hc => h.offered ?_, fun hc => ?_⟩
  · have hu : u.control c := h.control hc
    rw [reportLockChange, controlEntry_of_control hu]
    exact offerNotice_offered c _ u ((hu c).2 rfl).1
  · rw [reportLockChange_of_noControl (h.noControl hc)]
    exact ⟨h.replies, h.sessions, h.engine⟩

/-- What is told stays told while the queue of replies, the sessions and the engine stand. -/
theorem SameDesk.noticeOffered_right {v : State} {payload : List Byte} (h : SameDesk t v)
    (ho : noticeOffered s t c payload) : noticeOffered s v c payload := by
  have hdropped : noticeDropped s t c → noticeDropped s v c := fun ⟨hq, hflag, hothers⟩ =>
    ⟨h.replies.trans hq, (h.session c).trans hflag, fun a ha => (h.session a).trans (hothers a ha)⟩
  refine ⟨fun hr => ?_, fun hr => ?_⟩
  · refine (ho.1 hr).imp (fun ⟨hq, hs, he⟩ => ?_) fun ⟨hc, hd, he⟩ => ⟨hc, hdropped hd, h.engine.trans he⟩
    exact ⟨h.replies.trans hq, h.sessions.trans hs, h.engine.trans he⟩
  · obtain ⟨hd, he⟩ := ho.2 hr
    exact ⟨hdropped hd, h.engine.trans he⟩

theorem putSymbol_sameDesk (sym : Symbol) (s : State) : SameDesk s (putSymbol sym s) := by constructor <;> simp

/-- A state with LINK OUT released and no gap in hand. -/
def State.ungapped (s : State) : State := { s.quiet with tx := { s.tx with gap := none } }

theorem ungapped_linked (s : State) : Linked s.rx s.comp s.tx.mode s s.ungapped :=
  ⟨untouched_link, rfl, rfl, rfl, rfl, rfl⟩

/-- Where the gap in hand takes no entries, a symbol is received behind its close (R134, R135). -/
theorem received_of_not_blanking {sym : Symbol} (hgap : ∀ p, s.tx.gap = some p → p.kind ≠ .blanking) :
    s.received sym = receiveSymbol sym s.ungapped := orderedClose_of_not_blanking (s := s.quiet) hgap

end Report

/-- Settles O8. -/
theorem secondMatchingFrameLocks : Obligations.SecondMatchingFrameLocks := by
  refine ⟨fun s m candidate hs hlock hmode htracker => ?_, fun s m hs hlock hmode hacquired => ?holdover⟩
  · intro g limits
    have hlimits : limits ↔ m.geometry.withinLimits = true := (withinLimits_iff m.geometry).symm
    refine ⟨fun hline hwithin hcandidate => ?locks, fun hline hwithin hcandidate => ?candidate, fun hill => ?illFormed⟩
    case locks =>
      have hfinish : m.finish = some g := finish_wellFormed hline (hlimits.1 hwithin)
      have ht : s.rx.tracker.symbol .fe = (⟨.waiting, none⟩, some g) := by
        rw [htracker]
        exact symbol_fe_matches hfinish hcandidate
      obtain ⟨hexec, hlinked⟩ := exec_locks hs hlock hmode ht
      refine ⟨_, hexec, ?_⟩
      simp only [putSymbol_frame, putSymbol_mode, putSymbol_linkOut, hlinked.rx, hlinked.comp, hlinked.mode,
        hlinked.scene trivial, List.getLast?_concat]
      refine ⟨rfl, rfl, rfl, rfl, rfl, rfl, trivial, trivial, trivial, trivial, fun hgap => ?_⟩
      have hreceived : s.received .fe = reportLockChange (s.ungapped.withLink (s.rx.locking g) s.comp .compose) := by
        rw [received_of_not_blanking hgap]
        exact receiveSymbol_acquire_locks (u := s.ungapped) hlock nofun ht
      obtain ⟨htold, huntold⟩ := reportLockChange_told (s := s)
        (u := s.ungapped.withLink (s.rx.locking g) s.comp .compose) ⟨rfl, rfl, rfl, rfl⟩
      rw [hreceived]
      exact ⟨fun c hc => (putSymbol_sameDesk _ _).noticeOffered_right (htold c hc),
        fun hc => ⟨(huntold hc).1, (huntold hc).2.1⟩⟩
    case candidate =>
      have hfinish : m.finish = some g := finish_wellFormed hline (hlimits.1 hwithin)
      obtain ⟨u, hexec, hrx, hscene, hsessions, -, hpass, hlast⟩ := exec_acquire (c := .frameEnd) rfl hs hlock hmode
        (by rw [htracker]; exact symbol_fe_candidate hfinish hcandidate)
      exact ⟨u, hexec, hrx, hpass, hscene, hsessions, hlast⟩
    case illFormed =>
      have hfinish : m.finish = none := finish_illFormed (hill.imp_right fun h hwithin => h (hlimits.2 hwithin))
      obtain ⟨u, hexec, hrx, hscene, hsessions, -, hpass, hlast⟩ := exec_acquire (c := .frameEnd) rfl hs hlock hmode
        (by rw [htracker]; exact symbol_fe_illFormed hfinish)
      exact ⟨u, hexec, hrx, hpass, hscene, hsessions, hlast⟩
  case holdover =>
    intro g htracker hline hlimits
    have hfinish : m.finish = some g := finish_wellFormed hline ((withinLimits_iff m.geometry).2 hlimits)
    exact exec_holdover (c := .frameEnd) rfl hs hlock hmode hacquired
      (by rw [htracker]; exact symbol_fe_matches hfinish rfl)

end Sys2Proof.Machine

namespace Sys2Proof.Machine

/-! ### Symbols in LOCKED that are no framing error (R119) -/

section Accepted

variable {s u : State} {c : Instr} {sym : Symbol} {g : Geometry}

theorem receiveSymbol_accepted (hlock : u.rx.lock = .locked) (haccepts : u.rx.accepts sym) (hfs : sym ≠ .fs) :
    receiveSymbol sym u = u.withLink (u.rx.after sym) (u.comp.afterSymbol u.scene.live sym) u.tx.mode := by
  have htaken := lockedSymbol_of_accepts (s := { u with rx := { u.rx with gapPackets := 0 } }) hlock haccepts
  rw [receiveSymbol_of_locked sym hlock, htaken, lockedStep_of_not_fs hfs]
  rfl

/-- The row in COMPOSE of an accepted symbol that is no FS and no pixel. -/
theorem exec_accepted (hc : symbolOf c = some sym) (hs : s.composing g) (haccepts : s.rx.accepts sym)
    (hfs : sym ≠ .fs) (hpx : ∀ p, sym ≠ .px p) :
    ∃ u, exec c s = .next (putSymbol sym u)
      ∧ Linked (s.rx.after sym) (s.comp.afterSymbol s.scene.live sym) .compose s u ∧ u.sessions = s.sessions := by
  obtain ⟨hsettled, hlock, -, hmode⟩ := hs
  refine exec_taken hc hsettled (.inr hmode) (fun p hp => absurd hp (hpx p)) rfl fun u hu => ?_
  rw [receiveSymbol_accepted (hu.rx ▸ hlock) (hu.rx ▸ haccepts) hfs, hu.rx, hu.comp, hu.scene trivial, hu.mode, hmode]

/-! ### The fetches of a line start (R99, R100, R101) -/

theorem active_iff (g : Geometry) (n : Nat) : g.active n = true ↔ g.l0 ≤ n ∧ n < g.l0 + g.h := by
  simp [Geometry.active]

theorem afterSymbol_ls_active {comp : Compositor} {live : Scene} {n : Nat} (hframe : comp.frame = .drawing)
    (hg : comp.geometry = some g) (hactive : g.active n = true) :
    comp.afterSymbol live (.ls n) =
      { comp with owed := fetchesAt live (n - g.l0), reads := Vector.replicate 8 none } := by
  simp [Compositor.afterSymbol, hframe, hg, hactive]

theorem afterSymbol_of_not_drawing {comp : Compositor} (live : Scene) (hframe : comp.frame ≠ .drawing)
    (hfe : sym ≠ .fe) : comp.afterSymbol live sym = comp := by
  cases sym
  case fe => exact absurd rfl hfe
  case ls n =>
    unfold Compositor.afterSymbol
    dsimp only
    split
    · contradiction
    · rfl
  all_goals rfl

theorem afterSymbol_ls_inactive {comp : Compositor} (live : Scene) {n : Nat} (hg : comp.geometry = some g)
    (hactive : g.active n = false) : comp.afterSymbol live (.ls n) = comp := by
  unfold Compositor.afterSymbol
  dsimp only
  split
  · next g' _ hg' =>
    obtain rfl : g = g' := Option.some.inj (hg.symm.trans hg')
    rw [if_neg (by simp [hactive])]
  · rfl

theorem mem_fetchesAt (sc : Scene) (y : Nat) (k : Fin 8) (f : RowState) :
    (k, f) ∈ fetchesAt sc y ↔ k ∈ sc.order ∧ ∃ r, sc.windows[k] = some r ∧ fetchAt r y = some f := by
  unfold fetchesAt
  rw [List.mem_filterMap]
  constructor
  · rintro ⟨a, ha, hf⟩
    split at hf
    · next r hr =>
      obtain ⟨f', hf', heq⟩ := Option.map_eq_some_iff.1 hf
      cases heq
      exact ⟨ha, r, hr, hf'⟩
    · cases hf
  · rintro ⟨hk, r, hr, hf⟩
    exact ⟨k, hk, by simp [hr, hf]⟩

theorem ite_some_eq_some_iff {α : Type} {p : Prop} [Decidable p] (a b : α) :
    (if p then some a else none) = some b ↔ p ∧ b = a := by
  split_ifs with h <;> simp [h, eq_comm]

/-- R99, R100: the fetch of the model is the one that the rules name. -/
theorem fetchAt_eq_some_iff (r : WindowRecord) (y : Nat) (f : RowState) : fetchAt r y = some f ↔ fetchDue r y f := by
  unfold fetchAt fetchDue
  by_cases hspan : r.y ≤ y ∧ y < r.y + r.rows * r.cellHeight
  · have hspans : spans r y = true := by simpa [spans] using hspan
    have hzero : y = r.y ↔ y - r.y = 0 := by omega
    rw [if_pos hspans, ite_some_eq_some_iff, hzero, contentLine]
    obtain ⟨habove, hbelow⟩ := hspan
    simp only [habove, hbelow, true_and]
    cases r.split with
    | none => rfl
    | some p =>
      by_cases hsplit : p.row * r.cellHeight ≤ y - r.y
      · have hfirst : y - r.y = 0 → (y - r.y) % r.cellHeight = 0 := fun h => by rw [h, Nat.zero_mod]
        simp only [hsplit, if_true, cellIndex, Config.cellCount, Nat.not_lt.2 hsplit, false_and, false_or, true_and,
          or_iff_right_of_imp hfirst]
      · simp [hsplit, Nat.lt_of_not_le hsplit, upperLine, cellIndex, Config.cellCount]
  · have hspans : ¬ spans r y = true := by simpa [spans] using hspan
    rw [if_neg hspans]
    exact ⟨nofun, fun ⟨habove, hbelow, _⟩ => absurd ⟨habove, hbelow⟩ hspan⟩

end Accepted

/-- Settles O10. -/
theorem lockedLineStartOwesItsFetches : Obligations.LockedLineStartOwesItsFetches := by
  intro s g n hs hframe hn
  have haccepts : s.rx.accepts (.ls n) := by
    intro _ g' hg'
    obtain rfl : g = g' := Option.some.inj (hs.2.2.1.symm.trans hg')
    simp [framingFault, hframe, hn]
  obtain ⟨u, hexec, hu, hsessions⟩ := exec_accepted (c := .lineStart n) rfl hs haccepts nofun nofun
  refine ⟨_, hexec, ?_⟩
  simp only [putSymbol_frame, putSymbol_linkOut, hu.rx, hu.comp, hu.scene trivial, hsessions, hu.cells,
    List.getLast?_concat]
  refine ⟨by simp [Receiver.after, hframe, FramePos.step], trivial, trivial, trivial, trivial, fun hidle hg => ?_,
    fun hdrawing hg hlow hhigh => ?_⟩
  · by_cases hdrawing : s.comp.frame = .drawing
    · have hinactive : g.active n = false := by
        rw [← Bool.not_eq_true, active_iff]
        have := hidle.resolve_left fun h => h hdrawing
        omega
      exact afterSymbol_ls_inactive _ hg hinactive
    · exact afterSymbol_of_not_drawing _ hdrawing nofun
  · rw [afterSymbol_ls_active hdrawing hg ((active_iff g n).2 ⟨hlow, hhigh⟩)]
    refine ⟨rfl, fun k f => ?_⟩
    simp only [mem_fetchesAt, fetchAt_eq_some_iff]

/-! ### The ends of a line and of a frame (R93, R119, R134) -/

/-- R134: the LE of an open output line opens the gap that the pixels of its line name. -/
theorem putSymbol_le_of_lineOpen {s : State} (h : s.tx.lineOpen = true) :
    (putSymbol .le s).tx =
      { s.tx with gap := some (gapAfterLine s.tx.linePixels), lineOpen := false, linePixels := false } := by
  simp [putSymbol, h, Transmitter.follow]

theorem putSymbol_fe (s : State) : (putSymbol .fe s).tx =
    { s.tx with gap := some ⟨.blanking, []⟩, frameOpen := false, lineOpen := false, linePixels := false } := rfl

/-- Settles O15. -/
theorem lockedLineAndFrameEnds : Obligations.LockedLineAndFrameEnds := by
  intro s g next hs
  have hgeometry (g' : Geometry) (hg' : s.rx.geometry = some g') : g = g' :=
    Option.some.inj (hs.2.2.1.symm.trans hg')
  refine ⟨fun n k hframe hline => ?lineEnd, fun hframe hnext => ?frameEnd⟩
  case lineEnd =>
    have haccepts : s.rx.accepts .le := by
      intro _ g' hg'
      obtain rfl := hgeometry g' hg'
      have hwidth : g.active n = true → k = g.w := fun h => by
        have := (active_iff g n).1 h
        omega
      simpa [framingFault, hframe] using hwidth
    obtain ⟨u, hexec, hu, hsessions⟩ := exec_accepted (c := .lineEnd) (sym := .le) rfl hs haccepts nofun nofun
    refine ⟨_, hexec, ?_⟩
    simp only [putSymbol_frame, putSymbol_linkOut, hu.rx, hu.comp, hu.scene trivial, hsessions, List.getLast?_concat]
    refine ⟨by simp [Receiver.after, hframe, FramePos.step], rfl, trivial, trivial, trivial, fun hopen => ?_⟩
    rw [putSymbol_le_of_lineOpen (hu.lineOpen.trans hopen), hu.linePixels]
    exact ⟨rfl, rfl⟩
  case frameEnd =>
    have haccepts : s.rx.accepts .fe := by
      intro _ g' hg'
      obtain rfl := hgeometry g' hg'
      simp [framingFault, hframe, hnext]
    obtain ⟨u, hexec, hu, hsessions⟩ := exec_accepted (c := .frameEnd) (sym := .fe) rfl hs haccepts nofun nofun
    refine ⟨_, hexec, ?_⟩
    simp only [putSymbol_frame, putSymbol_linkOut, hu.rx, hu.comp, hu.scene trivial, hsessions, List.getLast?_concat]
    exact ⟨by simp [Receiver.after, hframe, FramePos.step], rfl, trivial, trivial, trivial, rfl, rfl⟩

end Sys2Proof.Machine

namespace Sys2Proof.Machine

/-! ### The Session Table's clocks under what a frame start owes (R12, R155) -/

/-- What the expiry of a session reads: its state, its idle count and its limit (R155). -/
def Session.clock (v : Session) : Bool × Nat × Nat := (v.isOpen, v.idle, v.limit)

theorem expiring_eq (v : Session) : v.expiring = (v.clock.1 && v.clock.2.1 == v.clock.2.2) := rfl

theorem clock_setSession {s : State} {e : Fin 4} {v : Session} (a : Fin 4) (h : v.clock = (s.session e).clock) :
    ((s.setSession e v).session a).clock = (s.session a).clock := by
  by_cases ha : a = e
  · rw [ha, session_setSession_same, h]
  · rw [session_setSession_other s e a v ha]

@[simp] theorem offerNotice_clock (e a : Fin 4) (p : List Byte) (s : State) :
    ((offerNotice e p s).session a).clock = (s.session a).clock := by
  have hcontest : ((contestEntry s).session a).clock = (s.session a).clock := by simp
  unfold offerNotice
  dsimp only
  split_ifs
  · exact hcontest
  · refine (clock_setSession a ?_).trans hcontest
    rfl
  · rfl

@[simp] theorem offerSessionEnded_clock (p : Byte) (a : Fin 4) (s : State) :
    ((offerSessionEnded p s).session a).clock = (s.session a).clock := by
  unfold offerSessionEnded
  split <;> simp

@[simp] theorem commitStage_clock (advanced : Bool) (a : Fin 4) (s : State) :
    ((commitStage advanced s).session a).clock = (s.session a).clock := by
  by_cases hdue : s.scene.commitIsDue
  · rw [commitStage_of_due advanced s hdue]
    split
    · rfl
    · exact offerNotice_clock _ a _ _
  · rw [commitStage_of_not_due advanced s hdue]
    rfl

theorem session_expireEntry_other (s : State) {e a : Fin 4} (h : a ≠ e) : (expireEntry e s).session a = s.session a := by
  have hne : e.1 ≠ a.1 := fun he => h (Fin.ext he.symm)
  simp [State.session, expireEntry, hne]

@[simp] theorem commitStage_frameCounter (advanced : Bool) (s : State) :
    (commitStage advanced s).scene.frameCounter = s.scene.frameCounter := by
  by_cases hdue : s.scene.commitIsDue
  · rw [commitStage_of_due advanced s hdue]
    split <;> simp [SceneStore.committed]
  · rw [commitStage_of_not_due advanced s hdue]

/-! ### What a frame start owes, taken before the gap of its FS closes (R137, R156) -/

section SettleSome

variable {J : State → Prop} {s : State}

theorem offerSome_rule (hdraw : ∀ u, J u → J u.draw.2) (hoffer : ∀ p u, J u → J (offerSessionEnded p u))
    (howed : ∀ l u, J u → J { u with expired := l }) (owed : List Byte) (h : J s) : J (offerSome owed s) := by
  induction owed generalizing s with
  | nil => exact howed [] s h
  | cons p rest ih =>
    unfold offerSome
    dsimp only
    split_ifs
    · exact ih (hoffer p _ (hdraw s h))
    · exact howed _ _ (hdraw s h)

theorem endSome_rule (hdraw : ∀ u, J u → J u.draw.2) (due : List (Fin 4))
    (hends : ∀ e ∈ due, ∀ u, J u → J (expireEntry e u)) (h : J s) : J (endSome due s) := by
  induction due generalizing s with
  | nil => exact h
  | cons e rest ih =>
    unfold endSome
    dsimp only
    split_ifs
    · exact ih (fun a ha => hends a (List.mem_cons_of_mem e ha)) (hends e List.mem_cons_self _ (hdraw s h))
    · exact hdraw s h

theorem foldl_expireEntry_rule (due : List (Fin 4)) (hends : ∀ e ∈ due, ∀ u, J u → J (expireEntry e u)) (h : J s) :
    J (due.foldl (fun s e => expireEntry e s) s) := by
  induction due generalizing s with
  | nil => exact h
  | cons e rest ih =>
    exact ih (fun a ha => hends a (List.mem_cons_of_mem e ha)) (hends e List.mem_cons_self _ h)

theorem finishScene_rule (hteardown : ∀ u, J u → J (teardownStage u)) (hcommit : ∀ b u, J u → J (commitStage b u))
    (h : J s) : J (finishScene s) := by
  unfold finishScene
  split
  · exact h
  · exact hcommit _ _ (hteardown s h)
  · exact hcommit _ s h

/-- Whatever the ends, the notices and the stages of a frame start each keep holds behind any part of them. -/
theorem settleSome_rule (hdraw : ∀ u, J u → J u.draw.2) (hoffer : ∀ p u, J u → J (offerSessionEnded p u))
    (howed : ∀ l u, J u → J { u with expired := l }) (hteardown : ∀ u, J u → J (teardownStage u))
    (hcommit : ∀ b u, J u → J (commitStage b u))
    (hends : ∀ u, J u → ∀ e ∈ u.expiringEntries, ∀ v, J v → J (expireEntry e v)) (h : J s) : J (settleSome s) := by
  have hfirst : J (endsBeforeStore s) := by
    unfold endsBeforeStore
    split
    · exact h
    · exact endSome_rule hdraw _ (hends s h) h
  have hoffered (owed : List Byte) (u : State) (hu : J u) : J (offerSome owed u) :=
    offerSome_rule hdraw hoffer howed owed hu
  have hfinished (u : State) (hu : J u) : J (finishScene u) := finishScene_rule hteardown hcommit hu
  unfold settleSome
  dsimp only
  split_ifs
  · exact h
  · exact hoffered _ _ (hfinished _ (hdraw _ (hoffered _ _ hfirst)))
  · exact hdraw _ (hoffered _ _ hfirst)
  · exact hoffered _ _ (foldl_expireEntry_rule _ (hends _ (hfinished _ hfirst)) (hfinished _ hfirst))

end SettleSome

/-! ### A composited frame start in LOCKED (R4, R94, R95, R118, R155) -/

/-- R94: the Compositor at the start of a frame of this geometry. -/
def Compositor.startFrame (comp : Compositor) (g : Option Geometry) : Compositor :=
  { comp with
    frame := .drawing, geometry := g, caches := Vector.replicate 8 [], rows := Vector.replicate 8 none, owed := []
    reads := Vector.replicate 8 none, blinkCounter := comp.blinkCounter + 1 }

/-- Between `s` and `t` a frame of this geometry began, with the receiver at `rx` and the output in this mode: the counter,
and the idle count of each session that does not reach its limit, advanced by one. -/
structure FrameStarted (rx : Receiver) (g : Option Geometry) (mode : OutputMode) (s t : State) : Prop where
  rx : t.rx = rx
  comp : t.comp = s.comp.startFrame g
  mode : t.tx.mode = mode
  counter : t.scene.frameCounter = s.scene.frameCounter + 1
  idle : ∀ e : Fin 4, (s.session e).isOpen = true → (s.session e).idle + 1 ≠ (s.session e).limit →
    (t.session e).clock = (true, (s.session e).idle + 1, (s.session e).limit)
  cells : t.cells = s.cells
  glyphs : t.glyphs = s.glyphs
  settings : t.settings = s.settings

section FrameStarted

variable {rx : Receiver} {comp : Compositor} {g : Option Geometry} {mode : OutputMode} {s t u : State}

theorem compositedFrameStart_session (g : Option Geometry) (s : State) (e : Fin 4) :
    (compositedFrameStart g s).session e =
      if (s.session e).isOpen then { s.session e with idle := (s.session e).idle + 1 } else s.session e := by
  simp [State.session, compositedFrameStart]

theorem compositedFrameStart_started (hcomp : comp.startFrame g = s.comp.startFrame g) :
    FrameStarted rx g mode s (compositedFrameStart g (s.withLink rx comp mode)) := by
  refine ⟨rfl, hcomp, rfl, rfl, fun e hopen _ => ?_, rfl, rfl, rfl⟩
  have hopen' : ((s.withLink rx comp mode).session e).isOpen = true := hopen
  rw [compositedFrameStart_session, if_pos hopen', Session.clock, hopen']
  rfl

/-- The parts that a step does not reach stand as they did. -/
theorem FrameStarted.step (h : FrameStarted rx g mode s t) (hrx : u.rx = t.rx) (hcomp : u.comp = t.comp)
    (hmode : u.tx.mode = t.tx.mode) (hcounter : u.scene.frameCounter = t.scene.frameCounter)
    (hclock : ∀ e : Fin 4, (s.session e).isOpen = true → (s.session e).idle + 1 ≠ (s.session e).limit →
      (u.session e).clock = (t.session e).clock)
    (hcells : u.cells = t.cells) (hglyphs : u.glyphs = t.glyphs) (hsettings : u.settings = t.settings) :
    FrameStarted rx g mode s u :=
  ⟨hrx.trans h.rx, hcomp.trans h.comp, hmode.trans h.mode, hcounter.trans h.counter,
    fun e ho hl => (hclock e ho hl).trans (h.idle e ho hl), hcells.trans h.cells, hglyphs.trans h.glyphs,
    hsettings.trans h.settings⟩

theorem FrameStarted.closeGap (h : FrameStarted rx g mode s t) : FrameStarted rx g mode s (closeGap t) :=
  h.step (by simp) (by simp) (by simp) (by simp) (fun _ _ _ => by simp [State.session])
    (by simp) (by simp) (by simp)

theorem FrameStarted.settleSome (h : FrameStarted rx g mode s t) : FrameStarted rx g mode s (settleSome t) := by
  refine settleSome_rule (J := FrameStarted rx g mode s) (fun u hu => ?_) (fun p u hu => ?_) (fun l u hu => ?_)
    (fun u hu => ?_) (fun b u hu => ?_) (fun u hu e he v hv => ?ends) h
  case ends =>
    have hother (a : Fin 4) (ho : (s.session a).isOpen = true)
        (hl : (s.session a).idle + 1 ≠ (s.session a).limit) : a ≠ e := by
      rintro rfl
      have hexpiring : (u.session a).expiring = true := by simpa [State.expiringEntries] using (List.mem_filter.1 he).2
      rw [expiring_eq, hu.idle a ho hl] at hexpiring
      simp [hl] at hexpiring
    exact hv.step (by simp) (by simp) (by simp) rfl
      (fun a ho hl => by rw [session_expireEntry_other v (hother a ho hl)]) (by simp) (by simp) (by simp)
  · exact hu.step rfl rfl rfl rfl (fun _ _ _ => rfl) rfl rfl rfl
  · exact hu.step (by simp) (by simp) (by simp) (by simp) (by simp) (by simp) (by simp) (by simp)
  · exact hu.step rfl rfl rfl rfl (fun _ _ _ => rfl) rfl rfl rfl
  · exact hu.step rfl rfl rfl rfl (fun _ _ _ => rfl) rfl rfl rfl
  · exact hu.step (by simp) (by simp) (by simp) (by simp) (by simp) (by simp) (by simp) (by simp)

theorem FrameStarted.of_linked (h : FrameStarted rx g mode u t) (hu : Linked s.rx s.comp s.tx.mode s u)
    (hsessions : u.sessions = s.sessions) : FrameStarted rx g mode s t where
  rx := h.rx
  comp := by rw [h.comp, hu.comp]
  mode := h.mode
  counter := by rw [h.counter, hu.scene trivial]
  idle e ho hl := by
    have hsame : u.session e = s.session e := session_congr u s hsessions e
    rw [← hsame] at ho hl ⊢
    exact h.idle e ho hl
  cells := h.cells.trans hu.cells
  glyphs := h.glyphs.trans hu.glyphs
  settings := h.settings.trans hu.settings

/-- The row of an FS that begins a frame, with the gap before it closed in either order (R137). -/
theorem received_started
    (hact : ∀ u, Linked s.rx s.comp s.tx.mode s u → FrameStarted rx g mode u (receiveSymbol .fs u)) :
    FrameStarted rx g mode s (s.received .fs) := by
  refine orderedClose_rule (J := FrameStarted rx g mode s) (fun u hu hsessions => ?_) (fun _ hu => hu.settleSome)
    fun _ hu => hu.closeGap
  have hlinked : Linked s.rx s.comp s.tx.mode s u := (quiet_linked s).trans hu
  exact (hact u hlinked).of_linked hlinked hsessions

end FrameStarted

/-! ### An FS in LOCKED (R118, R119, R120) -/

section LockedFS

variable {s u : State} {g : Geometry} {pos : FramePos}

/-- The receiver behind an FS in LOCKED: a new judged frame, and the run at 0 behind a clean one (R119, R120, R121). -/
def Receiver.starting (rx : Receiver) (settles : Bool) (ms : Nat) : Receiver :=
  { rx with
    watchdog := some ms, run := if settles then false else rx.run, frame := ⟨true, .inFrame 0 none, false⟩
    gapPackets := 0 }

theorem lockedStep_fs (settles : Bool) (s : State) :
    lockedStep settles .fs s = compositedFrameStart s.rx.geometry { s with rx := { s.rx with
      watchdog := some s.settings.watchdog, run := if settles then false else s.rx.run
      frame := ⟨true, .inFrame 0 none, false⟩ } } := by
  cases settles <;> rfl

theorem receiveSymbol_fs_accepted (hlock : u.rx.lock = .locked) (haccepts : u.rx.accepts .fs) :
    receiveSymbol .fs u = compositedFrameStart u.rx.geometry
      (u.withLink (u.rx.starting u.rx.frame.clean u.settings.watchdog) u.comp u.tx.mode) := by
  have htaken := lockedSymbol_of_accepts (s := { u with rx := { u.rx with gapPackets := 0 } }) hlock haccepts
  rw [receiveSymbol_of_locked .fs hlock, htaken, lockedStep_fs]
  rfl

/-- Until the FS behind a switch, and behind a damaged frame or an FE, an FS is no framing error (R119, R124). -/
theorem accepts_fs (h : s.rx.frame.judged = false ∨ s.rx.frame.damaged = true ∨ s.rx.frame.pos = .afterFE) :
    s.rx.accepts .fs := by
  intro hclean g _
  rcases h with h | h | h
  · simp [LockedFrame.clean, h] at hclean
  · simp [LockedFrame.clean, h] at hclean
  · simp [h, framingFault]

/-- The row of an FS that begins a composited frame in LOCKED, in COMPOSE or at the end of AWAIT. -/
theorem exec_frameStart_accepted (hs : s.settled) (hlock : s.rx.lock = .locked)
    (hmode : s.tx.mode = .compose ∨ s.tx.mode = .await) (haccepts : s.rx.accepts .fs) :
    ∃ u, exec .frameStart s = .next (putSymbol .fs u)
      ∧ FrameStarted (s.rx.starting s.rx.frame.clean s.settings.watchdog) s.rx.geometry .compose s u := by
  have hstart (u : State) (hu : Linked s.rx s.comp s.tx.mode s u) : FrameStarted
      (s.rx.starting s.rx.frame.clean s.settings.watchdog) s.rx.geometry s.tx.mode u (receiveSymbol .fs u) := by
    rw [receiveSymbol_fs_accepted (hu.rx ▸ hlock) (hu.rx ▸ haccepts), hu.rx, hu.settings, hu.mode]
    exact compositedFrameStart_started rfl
  rcases hmode with hmode | hmode
  · rw [hmode] at hstart
    exact ⟨_, exec_passes (sym := .fs) rfl hs (.inr hmode) nofun, received_started (hmode ▸ hstart)⟩
  · refine ⟨_, (exec_of_symbolOf (c := .frameStart) rfl s).trans (congrArg _ (inputSymbol_await_fs hs hmode)), ?_⟩
    have hbegun := (hstart s.quiet (quiet_linked s)).of_linked (quiet_linked s) rfl
    exact ⟨hbegun.rx, hbegun.comp, rfl, hbegun.counter, hbegun.idle, hbegun.cells, hbegun.glyphs, hbegun.settings⟩

end LockedFS

/-- Settles O9. -/
theorem lockedFrameStartIsComposited : Obligations.LockedFrameStartIsComposited := by
  refine ⟨fun s g hs hlock hg hmode hframe => ?start, fun s c sym hc hfs hs hlock hmode hjudged => ?await⟩
  case start =>
    obtain ⟨u, hexec, hu⟩ := exec_frameStart_accepted hs hlock hmode (accepts_fs hframe)
    refine ⟨_, hexec, ?_⟩
    simp only [putSymbol_frame, putSymbol_linkOut, putSymbol_mode, hu.rx, hu.comp, hu.counter, hu.cells, hu.glyphs,
      hu.settings, hu.mode, List.getLast?_concat]
    refine ⟨trivial, fun e ho hl => ?_, ?_, rfl, hg, fun k => ?_, rfl, rfl, trivial, trivial, trivial, trivial, trivial⟩
    · have hclock := hu.idle e ho hl
      simp only [Session.clock, Prod.mk.injEq] at hclock
      rw [session_congr _ u (by simp)]
      exact ⟨hclock.1, hclock.2.1⟩
    · simp [Receiver.starting, LockedFrame.clean]
    · simp [Compositor.startFrame]
  case await =>
    have haccepts : s.rx.accepts sym := fun hclean => by simp [LockedFrame.clean, hjudged] at hclean
    have hrow : exec c s = .next
        (s.quiet.withLink (s.rx.after sym) (s.comp.afterSymbol s.scene.live sym) s.tx.mode) := by
      rw [exec_of_symbolOf hc, inputSymbol_await_of_not_fs hs hmode hfs,
        receiveSymbol_accepted (u := s.quiet) hlock haccepts hfs]
      rfl
    refine ⟨_, hrow, rfl, rfl, rfl, hjudged, rfl, rfl, rfl, rfl, rfl, rfl, rfl, rfl, fun hidle howed => ?_⟩
    by_cases hfe : sym = .fe
    · subst hfe
      simp only [State.withLink, Compositor.afterSymbol, ← hidle, ← howed]
    · exact afterSymbol_of_not_drawing _ (by rw [hidle]; nofun) hfe

end Sys2Proof.Machine

namespace Sys2Proof.Machine

/-! ### Framing errors (R119, R120, Table 34) -/

section FramingErrors

variable {s u : State} {c : Instr} {sym : Symbol} {g : Geometry} {pos : FramePos}

/-- Table 34, as the model's rows read it. -/
theorem framingFault_of_departs (h : departs g pos c) : ∃ sym, symbolOf c = some sym ∧ sym ≠ .fs
    ∧ framingFault g pos sym = true ∧ (c ≠ .frameEnd → sym ≠ .fe) ∧ ∀ p, c = .pixel p → sym = .px p := by
  cases c
  case lineStart n =>
    refine ⟨.ls n, rfl, nofun, ?_, nofun, nofun⟩
    rcases pos with _ | ⟨next, _ | l⟩
    case inFrame.none => simpa [departs, framingFault] using h
    all_goals rfl
  case pixel p =>
    refine ⟨.px p, rfl, nofun, ?_, nofun, fun q hq => by cases hq; rfl⟩
    rcases pos with _ | ⟨next, _ | l⟩
    case inFrame.some =>
      simp only [departs] at h
      simp only [framingFault, Geometry.active, Bool.or_eq_true, Bool.not_eq_true', Bool.and_eq_false_iff,
        decide_eq_true_eq, decide_eq_false_iff_not]
      omega
    all_goals rfl
  case lineEnd =>
    refine ⟨.le, rfl, nofun, ?_, nofun, nofun⟩
    rcases pos with _ | ⟨next, _ | l⟩
    case inFrame.some =>
      simp only [departs] at h
      simp only [framingFault, Geometry.active, Bool.and_eq_true, decide_eq_true_eq]
      omega
    all_goals rfl
  case frameEnd =>
    refine ⟨.fe, rfl, nofun, ?_, fun hne => absurd rfl hne, nofun⟩
    rcases pos with _ | ⟨next, _ | l⟩
    case inFrame.none => simpa [departs, framingFault] using h
    all_goals rfl
  all_goals exact h.elim

theorem framingFault_fs (h : pos ≠ .afterFE) : framingFault g pos .fs = true := by
  cases pos
  case afterFE => exact absurd rfl h
  case inFrame => rfl

/-- The receiver LOCKED behind the first damaged frame of a run (R119, R120). -/
def Receiver.damaging (rx : Receiver) : Receiver :=
  { rx with damagedFrames := saturate rx.damagedFrames, run := true, frame := { rx.frame with damaged := true } }

/-- The receiver in ACQUIRE behind the second (R120). -/
def Receiver.unlocking (rx : Receiver) : Receiver :=
  { rx with
    lock := .acquire, run := false, tracker := Tracker.reset, damagedFrames := saturate rx.damagedFrames
    frame := { rx.frame with damaged := true }, gapPackets := 0 }

/-- The Compositor at a framing error (R93). -/
def Compositor.stopped (comp : Compositor) : Compositor :=
  { comp with frame := if comp.frame = .drawing then .stopped else comp.frame, owed := [] }

/-- The Compositor behind the loss of lock (R93, R110). -/
def Compositor.idled (comp : Compositor) : Compositor := { comp with frame := .idle, owed := [] }

/-- A clean judged frame of geometry `g`, and the symbol that departs from it. -/
structure Faults (s : State) (g : Geometry) (sym : Symbol) : Prop where
  lock : s.rx.lock = .locked
  geometry : s.rx.geometry = some g
  clean : s.rx.frame.clean = true
  fault : framingFault g s.rx.frame.pos sym = true

theorem Faults.of_rx (h : Faults s g sym) (hu : u.rx = s.rx) : Faults u g sym := by
  obtain ⟨hlock, hg, hclean, hfault⟩ := h
  exact ⟨hu ▸ hlock, hu ▸ hg, hu ▸ hclean, hu ▸ hfault⟩

theorem faults_of_composing (hs : s.composing g) (hframe : s.rx.frame = ⟨true, pos, false⟩)
    (hfault : framingFault g pos sym = true) : Faults s g sym :=
  ⟨hs.2.1, hs.2.2.1, by rw [hframe]; rfl, by rw [hframe]; exact hfault⟩

theorem receiveSymbol_of_fault (h : Faults u g sym) : receiveSymbol sym u =
    if u.rx.run then
      (if sym = .fs then acquireSymbol .fs (framingError (u.withGapPackets 0)) else framingError (u.withGapPackets 0))
    else lockedStep false sym (framingError (u.withGapPackets 0)) := by
  rw [receiveSymbol_of_locked sym h.lock]
  exact lockedSymbol_of_fault (s := u.withGapPackets 0) h.lock h.clean h.geometry h.fault

theorem receiveSymbol_damages (h : Faults u g sym) (hrun : u.rx.run = false) (hfs : sym ≠ .fs) :
    receiveSymbol sym u =
      u.withLink (u.rx.damaging.after sym) (u.comp.stopped.afterSymbol u.scene.live sym) u.tx.mode := by
  have hclear : ¬ u.rx.run = true := by simp [hrun]
  rw [receiveSymbol_of_fault h, if_neg hclear, framingError_of_run_clear (s := u.withGapPackets 0) hrun,
    lockedStep_of_not_fs hfs]
  rfl

theorem receiveSymbol_damages_fs (h : Faults u g .fs) (hrun : u.rx.run = false) :
    receiveSymbol .fs u = compositedFrameStart u.rx.geometry
      (u.withLink (u.rx.damaging.starting false u.settings.watchdog) u.comp.stopped u.tx.mode) := by
  have hclear : ¬ u.rx.run = true := by simp [hrun]
  rw [receiveSymbol_of_fault h, if_neg hclear, framingError_of_run_clear (s := u.withGapPackets 0) hrun,
    lockedStep_fs]
  rfl

theorem framingError_unlocks (hrun : u.rx.run = true) :
    framingError (u.withGapPackets 0) = reportLockChange (u.withLink u.rx.unlocking u.comp.idled .pass) :=
  framingError_of_run_set (s := u.withGapPackets 0) hrun

theorem receiveSymbol_unlocks (h : Faults u g sym) (hrun : u.rx.run = true) (hfs : sym ≠ .fs) :
    receiveSymbol sym u = reportLockChange (u.withLink u.rx.unlocking u.comp.idled .pass) := by
  rw [receiveSymbol_of_fault h, if_pos hrun, if_neg hfs, framingError_unlocks hrun]

/-- R120: an early FS that unlocks begins the first measured frame. -/
theorem receiveSymbol_unlocks_fs (h : Faults u g .fs) (hrun : u.rx.run = true) :
    receiveSymbol .fs u = (reportLockChange (u.withLink u.rx.unlocking u.comp.idled .pass)).withLink
      { u.rx.unlocking with tracker := ⟨.measuring Measure.start, none⟩, watchdog := some u.settings.watchdog }
      u.comp.idled .pass := by
  have hfs : Linked u.rx.unlocking u.comp.idled .pass u
      (reportLockChange (u.withLink u.rx.unlocking u.comp.idled .pass)) := 
    Linked.reportLockChange (withLink_linked (rx := u.rx.unlocking) rfl)
  rw [receiveSymbol_of_fault h, if_pos hrun, if_pos rfl, framingError_unlocks hrun]
  generalize reportLockChange _ = v at hfs ⊢
  simp only [acquireSymbol, hfs.rx, Receiver.unlocking, Tracker.reset, restartWatchdog]
  rw [← hfs.settings, ← hfs.comp, ← hfs.mode]
  rfl

/-! ### The rows of a framing error -/

theorem stopped_afterSymbol {comp : Compositor} (live : Scene) (hfe : sym ≠ .fe) :
    comp.stopped.afterSymbol live sym = comp.stopped :=
  afterSymbol_of_not_drawing live (stopped_ne_drawing comp.frame) hfe

theorem stopped_afterSymbol_frame (comp : Compositor) (live : Scene) :
    (comp.stopped.afterSymbol live sym).frame ≠ .drawing := by
  by_cases hfe : sym = .fe
  · subst hfe
    nofun
  · rw [stopped_afterSymbol live hfe]
    exact stopped_ne_drawing comp.frame

theorem exec_damages (hc : symbolOf c = some sym) (hs : s.composing g) (h : Faults s g sym) (hrun : s.rx.run = false)
    (hfs : sym ≠ .fs) : ∃ u, exec c s = .next (putSymbol sym u)
      ∧ Linked (s.rx.damaging.after sym) (s.comp.stopped.afterSymbol s.scene.live sym) .compose s u
      ∧ u.sessions = s.sessions := by
  obtain ⟨hsettled, -, -, hmode⟩ := hs
  refine exec_taken hc hsettled (.inr hmode) (fun _ _ => .inr (stopped_afterSymbol_frame _ _)) rfl fun u hu => ?_
  rw [receiveSymbol_damages (h.of_rx hu.rx) (hu.rx ▸ hrun) hfs, hu.rx, hu.comp, hu.scene trivial, hu.mode, hmode]

/-- An early FS with the run at 0 begins a new composited frame (R119). -/
theorem exec_damages_fs (hs : s.composing g) (h : Faults s g .fs) (hrun : s.rx.run = false) :
    ∃ u, exec .frameStart s = .next (putSymbol .fs u)
      ∧ FrameStarted (s.rx.damaging.starting false s.settings.watchdog) s.rx.geometry .compose s u := by
  obtain ⟨hsettled, -, -, hmode⟩ := hs
  refine ⟨_, exec_passes (sym := .fs) rfl hsettled (.inr hmode) nofun, received_started fun u hu => ?_⟩
  rw [receiveSymbol_damages_fs (h.of_rx hu.rx) (hu.rx ▸ hrun), hu.rx, hu.settings, hu.mode, hmode]
  exact compositedFrameStart_started rfl

/-- The row of a symbol that unlocks, with the receiver at `rx` behind it (R120, R130). -/
theorem exec_unlocks {rx : Receiver} (hc : symbolOf c = some sym) (hs : s.composing g) (hlock : rx.lock = .acquire)
    (hact : ∀ u, Linked s.rx s.comp s.tx.mode s u → Linked rx s.comp.idled .pass u (receiveSymbol sym u)) :
    exec c s = .next (putSymbol sym (s.received sym)) ∧ Linked rx s.comp.idled .pass s (s.received sym) := by
  have hreceived := received_linked hs.1 hact
  refine ⟨exec_passes hc hs.1 (.inr hs.2.2.2) fun _ _ => .inl ?_, hreceived⟩
  rw [hreceived.rx, hlock]
  nofun

/-- R128: where the gap in hand takes no entries, the CONTROL session is told of the loss of lock. -/
theorem unlocks_told {v : State} (hsame : SameDesk (reportLockChange
      (s.ungapped.withLink s.rx.unlocking s.comp.idled .pass)) v) :
    (∀ a, s.control a → noticeOffered s (putSymbol sym v) a ([0x03, 2] ++ List.replicate 8 0))
    ∧ (s.noControl → v.replyQueue = s.replyQueue ∧ v.sessions = s.sessions) := by
  obtain ⟨htold, huntold⟩ := reportLockChange_told (s := s)
    (u := s.ungapped.withLink s.rx.unlocking s.comp.idled .pass) ⟨rfl, rfl, rfl, rfl⟩
  refine ⟨fun a ha => (putSymbol_sameDesk sym v).noticeOffered_right (hsame.noticeOffered_right (htold a ha)), fun hno => ?_⟩
  obtain ⟨hreplies, hsessions, -⟩ := huntold hno
  exact ⟨hsame.replies.trans hreplies, hsame.sessions.trans hsessions⟩

end FramingErrors

/-- Settles O16. -/
theorem damagedFramesStopAndUnlock : Obligations.DamagedFramesStopAndUnlock := by
  refine ⟨fun s g pos hs hframe hrun => ⟨fun c hdeparts => ?damages, fun hpos => ?damagesFS⟩,
    fun s g pos hs hframe hrun => ⟨fun c hdeparts => ?unlocks, fun hpos => ?unlocksFS⟩⟩
  case damages =>
    obtain ⟨sym, hc, hfs, hfault, hfe, hpx⟩ := framingFault_of_departs hdeparts
    obtain ⟨u, hexec, hu, hsessions⟩ := exec_damages hc hs (faults_of_composing hs hframe hfault) hrun hfs
    refine ⟨_, hexec, ?_⟩
    simp only [putSymbol_frame, putSymbol_mode, putSymbol_linkOut, hu.rx, hu.comp, hu.mode, hu.scene trivial, hsessions,
      List.getLast?_concat]
    refine ⟨hs.2.1, rfl, rfl, by simp [Receiver.after, Receiver.damaging, hframe], saturate_eq _, hs.2.2.1, rfl,
      trivial, stopped_afterSymbol_frame _ _, fun hc hdrawing => ?_, fun p hp => by rw [hpx p hp], trivial, trivial⟩
    rw [stopped_afterSymbol _ (hfe hc)]
    simp [Compositor.stopped, hdrawing]
  case damagesFS =>
    obtain ⟨u, hexec, hu⟩ := exec_damages_fs hs (faults_of_composing hs hframe (framingFault_fs hpos)) hrun
    refine ⟨_, hexec, ?_⟩
    simp only [putSymbol_frame, putSymbol_mode, hu.rx, hu.comp, hu.mode, hu.counter]
    exact ⟨hs.2.1, rfl, rfl, saturate_eq _, trivial, rfl, rfl, trivial⟩
  case unlocks =>
    obtain ⟨sym, hc, hfs, hfault, -, hpx⟩ := framingFault_of_departs hdeparts
    have hfaults : Faults s g sym := faults_of_composing hs hframe hfault
    obtain ⟨hexec, hu⟩ := exec_unlocks (rx := s.rx.unlocking) hc hs rfl fun u hu => by
      rw [receiveSymbol_unlocks (hfaults.of_rx hu.rx) (hu.rx ▸ hrun) hfs, ← hu.rx, ← hu.comp]
      exact (withLink_linked (rx := u.rx.unlocking) rfl).reportLockChange
    refine ⟨_, hexec, ?_⟩
    simp only [putSymbol_frame, putSymbol_mode, putSymbol_linkOut, hu.rx, hu.comp, hu.mode, hu.scene trivial,
      List.getLast?_concat]
    refine ⟨rfl, rfl, rfl, saturate_eq _, hs.2.2.1, rfl, trivial, rfl, fun p hp => by rw [hpx p hp], trivial,
      fun hgap => unlocks_told ?_⟩
    rw [received_of_not_blanking hgap, receiveSymbol_unlocks (u := s.ungapped) (hfaults.of_rx rfl) hrun hfs]
    exact ⟨rfl, rfl, rfl, rfl⟩
  case unlocksFS =>
    have hfaults : Faults s g .fs := faults_of_composing hs hframe (framingFault_fs hpos)
    obtain ⟨hexec, hu⟩ := exec_unlocks (c := .frameStart) (sym := .fs) (rx := { s.rx.unlocking with
        tracker := ⟨.measuring Measure.start, none⟩, watchdog := some s.settings.watchdog }) rfl hs rfl fun u hu => by
      rw [receiveSymbol_unlocks_fs (hfaults.of_rx hu.rx) (hu.rx ▸ hrun), ← hu.rx, ← hu.comp, ← hu.settings]
      refine Linked.trans (Linked.reportLockChange (withLink_linked (rx := u.rx.unlocking) rfl)) (withLink_linked ?_)
      simp only [reportLockChange_frame]
      rfl
    refine ⟨_, hexec, ?_⟩
    simp only [putSymbol_frame, putSymbol_mode, hu.rx, hu.comp, hu.mode, hu.scene trivial]
    refine ⟨rfl, rfl, rfl, saturate_eq _, trivial, trivial, rfl, trivial, fun hgap => unlocks_told ?_⟩
    rw [received_of_not_blanking hgap, receiveSymbol_unlocks_fs (u := s.ungapped) (hfaults.of_rx rfl) hrun]
    exact ⟨rfl, rfl, rfl, rfl⟩

end Sys2Proof.Machine

namespace Sys2Proof.Machine

/-! ### The close of the gap in hand (R134, R135, R136) -/

section CloseGap

variable {s : State} {n : Nat}

/-- R135: the entries of the Reply Queue that the gap in hand takes at most. -/
def State.room (s : State) : Nat :=
  match s.tx.gap with
  | some p => if p.kind = .blanking then 3 - p.forwarded.length else 0
  | none => 0

/-- The engine where entries may leave the Reply Queue (R161). -/
def State.engineBehind (s : State) (n : Nat) : Engine :=
  if s.engine = .waiting ∧ s.replyQueue ≠ [] ∧ 0 < n then .testing else s.engine

/-- The state with no gap in hand, whose `n` oldest entries of the Reply Queue have left as packets. -/
def State.sent (s : State) (n : Nat) : State :=
  { s with
    tx := { s.tx with gap := none }, replyQueue := s.replyQueue.drop n, linkOut := s.linkOut ++ s.packetsOf n
    engine := s.engineBehind n }

theorem outgoingPacket_eq (unit : Byte) (o : Outgoing) : outgoingPacket unit o =
    .pk (packetBytes (if o.kind = .reply then 0xA5 else 0xA6) o.dest unit o.seq o.payload) := by
  unfold outgoingPacket
  cases o.kind <;> rfl

theorem packetsOf_eq (s : State) (n : Nat) :
    s.packetsOf n = (s.replyQueue.take n).map (outgoingPacket s.unitAddress) :=
  List.map_congr_left fun o _ => (outgoingPacket_eq s.unitAddress o).symm

theorem packetsOf_zero (s : State) : s.packetsOf 0 = [] := rfl

theorem engineBehind_zero (s : State) : s.engineBehind 0 = s.engine := by simp [State.engineBehind]

theorem wakeEngine_eq (s : State) :
    wakeEngine s = { s with engine := if s.engine = .waiting then .testing else s.engine } := by
  unfold wakeEngine
  split
  · next h => simp [h]
  · next h => simp [show s.engine ≠ .waiting from h]

theorem room_of_gap {p : Gap} (h : s.tx.gap = some p) : s.room = gapRoom p := by
  rw [State.room, h]
  rfl

/-- R135, R161: what the close of a gap does, of whatever kind and where there is none. -/
theorem closeGap_eq (s : State) : closeGap s = s.sent s.room := by
  unfold closeGap
  split
  · next hgap =>
    have hroom : s.room = 0 := by rw [State.room, hgap]
    rw [hroom, State.sent, packetsOf_zero, engineBehind_zero, ← hgap]
    simp
  · next p hgap =>
    rw [room_of_gap hgap, State.sent, packetsOf_eq, State.engineBehind]
    by_cases hnone : s.replyQueue = [] ∨ gapRoom p = 0
    · have htaken : (s.replyQueue.take (gapRoom p)).isEmpty = true := by simpa [or_comm] using hnone
      have hkept : ¬ (s.engine = .waiting ∧ s.replyQueue ≠ [] ∧ 0 < gapRoom p) := fun ⟨_, hq, hn⟩ =>
        hnone.elim hq (Nat.pos_iff_ne_zero.1 hn)
      simp only [htaken, if_true, if_neg hkept]
    · have htaken : ¬ (s.replyQueue.take (gapRoom p)).isEmpty = true := by simpa [or_comm] using hnone
      obtain ⟨hq, hn⟩ := not_or.1 hnone
      simp only [if_neg htaken, wakeEngine_eq, hq, Nat.pos_iff_ne_zero.2 hn, ne_eq, not_false_eq_true, and_true]

end CloseGap

/-- R124, R141: the state that the switch reports: LOCKED at `a`, the generator stopped, the output waiting in AWAIT, and
the gap after the generated FE closed. -/
def State.relocking (s : State) (a : Geometry) : State :=
  { s.quiet.sent s.room with
    rx := { s.rx with
      lock := .locked, geometry := some a, tracker := Tracker.reset, acquired := none, run := false
      watchdog := some s.settings.watchdog, frame := ⟨false, .afterFE, false⟩ }
    tx := { s.tx with mode := .await, generator := .idle, gap := none } }

theorem exec_relockSwitch {s : State} {g a : Geometry} {period : Nat} (hs : s.settled) (hlock : s.rx.lock = .holdover)
    (hgen : s.tx.generator = .running g .ended period) (hacquired : s.rx.acquired = some a) :
    exec .relockSwitch s = .next (reportLockChange (s.relocking a)) := by
  have hlock' : s.quiet.rx.lock = .holdover := hlock
  have hgen' : s.quiet.tx.generator = .running g .ended period := hgen
  have hacquired' : s.quiet.rx.acquired = some a := hacquired
  change execRelockSwitch s = _
  simp only [execRelockSwitch, ready_of_settled s hs, hlock', hgen', hacquired', closeGap_eq]
  rfl

/-- Settles O27. -/
theorem relockWaitsForTheNextFrame : Obligations.RelockWaitsForTheNextFrame := by
  intro s g a period hs hlock hgen hacquired
  refine ⟨_, exec_relockSwitch hs hlock hgen hacquired, ?_⟩
  simp -zeta only [reportLockChange_frame]
  refine ⟨rfl, rfl, rfl, rfl, rfl, rfl, fun forwarded hgap => ?_⟩
  have hroom : s.room = 3 - forwarded.length := by simp [State.room, hgap]
  refine ⟨congrArg s.packetsOf hroom, ?_⟩
  have hengine : s.engineBehind s.room =
      if s.engine = .waiting ∧ s.replyQueue ≠ [] ∧ forwarded.length < 3 then .testing else s.engine := by
    simp only [State.engineBehind, hroom, Nat.sub_pos_iff_lt]
  intro left
  have hdesk : SameDesk left (s.relocking a) := ⟨congrArg (s.replyQueue.drop ·) hroom, rfl, hengine, rfl⟩
  exact reportLockChange_told hdesk

end Sys2Proof.Machine

namespace Sys2Proof.Machine

/-! ### Entries that leave the Reply Queue as the output ends (R134, R135, R138) -/

/-- The packets among these symbols, where the others end a line or a frame. -/
def packetsIn (out : List Symbol) : List Symbol := out.filter fun sym => sym ≠ .le && sym ≠ .fe

/-- The ends of lines and frames among these symbols. -/
def endsIn (out : List Symbol) : List Symbol := out.filter fun sym => sym = .le || sym = .fe

section Sends

variable {s t u : State} {a b : Nat} {m m' : List Symbol} {sym : Symbol}

theorem packetsIn_append (out out' : List Symbol) : packetsIn (out ++ out') = packetsIn out ++ packetsIn out' :=
  List.filter_append ..

theorem endsIn_append (out out' : List Symbol) : endsIn (out ++ out') = endsIn out ++ endsIn out' :=
  List.filter_append ..

theorem packetsIn_packetsOf (s : State) (n : Nat) : packetsIn (s.packetsOf n) = s.packetsOf n := by
  refine List.filter_eq_self.2 fun sym h => ?_
  obtain ⟨o, -, rfl⟩ := List.mem_map.1 h
  rfl

theorem endsIn_packetsOf (s : State) (n : Nat) : endsIn (s.packetsOf n) = [] := by
  refine List.filter_eq_nil_iff.2 fun sym h => ?_
  obtain ⟨o, -, rfl⟩ := List.mem_map.1 h
  nofun

/-- Between `s` and `t` the `a` oldest entries of the Reply Queue leave as packets, the ends `m` are output, and nothing else
moves that an offer depends on or that it is made of. -/
structure Sends (a : Nat) (m : List Symbol) (s t : State) : Prop where
  replies : t.replyQueue = s.replyQueue.drop a
  engine : t.engine = s.engineBehind a
  sessions : t.sessions = s.sessions
  commands : t.commandQueue = s.commandQueue
  rx : t.rx = s.rx
  unit : t.unitAddress = s.unitAddress
  packets : packetsIn t.linkOut = packetsIn s.linkOut ++ s.packetsOf a
  ends : endsIn t.linkOut = endsIn s.linkOut ++ m

theorem engineBehind_add (hreplies : t.replyQueue = s.replyQueue.drop a) (hengine : t.engine = s.engineBehind a) :
    t.engineBehind b = s.engineBehind (a + b) := by
  rcases Nat.eq_zero_or_pos a with rfl | ha
  · rw [engineBehind_zero] at hengine
    simp [State.engineBehind, hengine, hreplies]
  · by_cases hwakes : s.engine = .waiting ∧ s.replyQueue ≠ []
    · simp [State.engineBehind, hengine, hwakes, ha, Nat.add_pos_left ha b]
    · have hkept (n : Nat) : s.engineBehind n = s.engine := if_neg fun ⟨hw, hq, _⟩ => hwakes ⟨hw, hq⟩
      have hnone : ¬ (t.engine = .waiting ∧ t.replyQueue ≠ [] ∧ 0 < b) := by
        rw [hengine, hkept, hreplies]
        exact fun ⟨hw, hq, _⟩ => hwakes ⟨hw, fun hnil => hq (by rw [hnil, List.drop_nil])⟩
      rw [State.engineBehind, if_neg hnone, hengine, hkept, hkept]

theorem packetsOf_congr (hreplies : t.replyQueue = s.replyQueue) (hunit : t.unitAddress = s.unitAddress) (n : Nat) :
    t.packetsOf n = s.packetsOf n := by simp only [State.packetsOf, hreplies, hunit]

theorem packetsOf_add (hreplies : t.replyQueue = s.replyQueue.drop a) (hunit : t.unitAddress = s.unitAddress) :
    s.packetsOf (a + b) = s.packetsOf a ++ t.packetsOf b := by
  simp only [State.packetsOf, hreplies, hunit, List.take_add, List.map_append]

theorem Sends.trans (h : Sends a m s t) (g : Sends b m' t u) : Sends (a + b) (m ++ m') s u where
  replies := by rw [g.replies, h.replies, List.drop_drop]
  engine := g.engine.trans (engineBehind_add h.replies h.engine)
  sessions := g.sessions.trans h.sessions
  commands := g.commands.trans h.commands
  rx := g.rx.trans h.rx
  unit := g.unit.trans h.unit
  packets := by rw [g.packets, h.packets, packetsOf_add h.replies h.unit, List.append_assoc]
  ends := by rw [g.ends, h.ends, List.append_assoc]

theorem Sends.sameDesk (h : Sends 0 m s t) : SameDesk s t :=
  ⟨h.replies, h.sessions, h.engine.trans (engineBehind_zero s), h.commands⟩

theorem sends_refl (s : State) : Sends 0 [] s s :=
  ⟨rfl, (engineBehind_zero s).symm, rfl, rfl, rfl, rfl, (List.append_nil _).symm, (List.append_nil _).symm⟩

theorem sends_draw (s : State) : Sends 0 [] s s.draw.2 :=
  ⟨rfl, (engineBehind_zero s).symm, rfl, rfl, rfl, rfl, (List.append_nil _).symm, (List.append_nil _).symm⟩

theorem sends_closeGap (s : State) : Sends s.room [] s (closeGap s) := by
  rw [closeGap_eq]
  refine ⟨rfl, rfl, rfl, rfl, rfl, rfl, ?_, ?_⟩
  · rw [State.sent, packetsIn_append, packetsIn_packetsOf]
  · rw [State.sent, endsIn_append, endsIn_packetsOf]

theorem sends_putSymbol (h : sym = .le ∨ sym = .fe) (s : State) : Sends 0 [sym] s (putSymbol sym s) := by
  have hpackets : packetsIn [sym] = [] := by rcases h with rfl | rfl <;> rfl
  have hends : endsIn [sym] = [sym] := by rcases h with rfl | rfl <;> rfl
  refine ⟨by simp, by simp [engineBehind_zero], by simp, by simp, by simp, by simp, ?_, ?_⟩
  · rw [putSymbol_linkOut, packetsIn_append, hpackets, packetsOf_zero]
  · rw [putSymbol_linkOut, endsIn_append, hends]

/-! ### The end of an interrupted frame (R138) -/

/-- The entries that the gap behind the open line takes at most (R134, R135). -/
def State.lineRoom (s : State) : Nat := if s.tx.lineOpen = true ∧ s.tx.linePixels = false then 3 else 0

/-- The entries that the gap behind the open frame takes at most. -/
def State.frameRoom (s : State) : Nat := if s.tx.frameOpen then 3 else 0

def State.lineMark (s : State) : List Symbol := if s.tx.lineOpen then [.le] else []

def State.frameMark (s : State) : List Symbol := if s.tx.frameOpen then [.fe] else []

/-- The line or the frame that `sym` ends, ended where it is open, with the gap before it closed (R138). -/
def endOpen (isOpen : Bool) (sym : Symbol) (s : State) : State := if isOpen then putSymbol sym (closeGap s) else s

theorem packetsOf_drop (hreplies : t.replyQueue = s.replyQueue.drop a) (hunit : t.unitAddress = s.unitAddress)
    (b : Nat) : t.packetsOf b = (s.packetsOf (a + b)).drop a := by
  simp only [State.packetsOf, hreplies, hunit, ← List.map_drop, List.drop_take, Nat.add_sub_cancel_left]

theorem packetsOf_drop_self (s : State) (n : Nat) : (s.packetsOf n).drop n = [] := by
  simp [State.packetsOf]

theorem closeGap_linkOut (s : State) : (closeGap s).linkOut = s.linkOut ++ s.packetsOf s.room := by
  rw [closeGap_eq]
  rfl

theorem closeGap_tx (s : State) : (closeGap s).tx = { s.tx with gap := none } := by
  rw [closeGap_eq]
  rfl

section EndOpen

variable {isOpen : Bool} {r : Nat}

theorem endOpen_sends (hsym : sym = .le ∨ sym = .fe) (s : State)
    (hr : (if isOpen then (endOpen isOpen sym s).room else 0) = r) :
    ∃ a, Sends a (if isOpen then [sym] else []) s (endOpen isOpen sym s)
      ∧ a + (endOpen isOpen sym s).room = s.room + r := by
  cases isOpen with
  | false => exact ⟨0, sends_refl s, by rw [← hr]; exact Nat.zero_add _⟩
  | true => exact ⟨s.room, (sends_closeGap s).trans (sends_putSymbol hsym _), by rw [← hr]; rfl⟩

theorem endOpen_linkOut (hsym : sym = .le ∨ sym = .fe) (s : State)
    (hr : (if isOpen then (endOpen isOpen sym s).room else 0) = r) :
    (closeGap (endOpen isOpen sym s)).linkOut = s.linkOut ++ s.packetsOf s.room ++ (if isOpen then [sym] else [])
      ++ (s.packetsOf (s.room + r)).drop s.room := by
  subst hr
  cases isOpen with
  | false => simp [endOpen, closeGap_linkOut, packetsOf_drop_self]
  | true =>
    have hsent := (sends_closeGap s).trans (sends_putSymbol hsym _)
    simp only [endOpen, if_true]
    rw [closeGap_linkOut, putSymbol_linkOut, closeGap_linkOut, packetsOf_drop hsent.replies hsent.unit]
    rfl

end EndOpen

def endLine (s : State) : State := endOpen s.tx.lineOpen .le s

def endFrame (s : State) : State := endOpen s.tx.frameOpen .fe s

theorem endLineAndFrame_eq (s : State) : endLineAndFrame s = endFrame (endLine s) := rfl

theorem endLine_of_closed (h : s.tx.lineOpen = false) : endLine s = s := by rw [endLine, endOpen, h]; rfl

theorem endFrame_of_closed (h : s.tx.frameOpen = false) : endFrame s = s := by rw [endFrame, endOpen, h]; rfl

theorem endLine_tx (h : s.tx.lineOpen = true) : (endLine s).tx =
    { s.tx with gap := some (gapAfterLine s.tx.linePixels), lineOpen := false, linePixels := false } := by
  have hopen : (closeGap s).tx.lineOpen = true := by rw [closeGap_lineOpen, h]
  rw [endLine, endOpen, if_pos h, putSymbol_le_of_lineOpen hopen, closeGap_tx]

theorem endFrame_tx (h : s.tx.frameOpen = true) : (endFrame s).tx =
    { s.tx with gap := some ⟨.blanking, []⟩, frameOpen := false, lineOpen := false, linePixels := false } := by
  rw [endFrame, endOpen, if_pos h, putSymbol_fe, closeGap_tx]

theorem endLine_room (s : State) : (if s.tx.lineOpen then (endLine s).room else 0) = s.lineRoom := by
  by_cases h : s.tx.lineOpen = true
  · simp only [State.room, State.lineRoom, endLine_tx h, h, gapAfterLine]
    cases s.tx.linePixels <;> rfl
  · simp [State.lineRoom, h]

theorem endFrame_room (s : State) : (if s.tx.frameOpen then (endFrame s).room else 0) = s.frameRoom := by
  by_cases h : s.tx.frameOpen = true
  · simp only [State.room, State.frameRoom, endFrame_tx h, h]
    rfl
  · simp [State.frameRoom, h]

theorem endLine_frameOpen (s : State) : (endLine s).tx.frameOpen = s.tx.frameOpen := by
  cases h : s.tx.lineOpen with
  | false => rw [endLine_of_closed h]
  | true => rw [endLine_tx h]

theorem endLine_frameMark (s : State) : (endLine s).frameMark = s.frameMark := by
  rw [State.frameMark, endLine_frameOpen, State.frameMark]

theorem endLine_frameRoom (s : State) : (endLine s).frameRoom = s.frameRoom := by
  rw [State.frameRoom, endLine_frameOpen, State.frameRoom]

theorem endLine_sends (s : State) :
    ∃ a, Sends a s.lineMark s (endLine s) ∧ a + (endLine s).room = s.room + s.lineRoom :=
  endOpen_sends (.inl rfl) s (endLine_room s)

theorem endFrame_sends (s : State) :
    ∃ a, Sends a s.frameMark s (endFrame s) ∧ a + (endFrame s).room = s.room + s.frameRoom :=
  endOpen_sends (.inr rfl) s (endFrame_room s)

/-- R135: the entries that the gaps of an interrupted frame take at most. -/
def State.endingRoom (s : State) : Nat := s.room + s.lineRoom + s.frameRoom

theorem endLineAndFrame_sends (s : State) : ∃ a, Sends a (s.lineMark ++ s.frameMark) s (endLineAndFrame s)
    ∧ a + (endLineAndFrame s).room = s.endingRoom := by
  obtain ⟨a, hline, ha⟩ := endLine_sends s
  obtain ⟨b, hframe, hb⟩ := endFrame_sends (endLine s)
  rw [endLine_frameMark] at hframe
  rw [endLine_frameRoom] at hb
  refine ⟨a + b, hline.trans hframe, ?_⟩
  rw [endLineAndFrame_eq, State.endingRoom]
  omega

theorem ended_sends (s : State) : Sends s.endingRoom (s.lineMark ++ s.frameMark) s (closeGap (endLineAndFrame s)) := by
  obtain ⟨a, hended, ha⟩ := endLineAndFrame_sends s
  have hclosed := hended.trans (sends_closeGap _)
  rwa [ha, List.append_nil] at hclosed

theorem ended_tx (s : State) : (closeGap (endLineAndFrame s)).tx =
    ⟨s.tx.mode, none, s.tx.generator, false, false, (closeGap (endLineAndFrame s)).tx.linePixels⟩ := by
  have hline : (endLine s).tx.mode = s.tx.mode ∧ (endLine s).tx.generator = s.tx.generator
      ∧ (endLine s).tx.lineOpen = false := by
    cases h : s.tx.lineOpen with
    | false => rw [endLine_of_closed h]; exact ⟨rfl, rfl, h⟩
    | true => rw [endLine_tx h]; exact ⟨rfl, rfl, rfl⟩
  obtain ⟨hmode, hgenerator, hopen⟩ := hline
  rw [endLineAndFrame_eq, closeGap_tx, ← hmode, ← hgenerator]
  cases h : (endLine s).tx.frameOpen with
  | false => simp only [endFrame_of_closed h, h, hopen]
  | true => rw [endFrame_tx h]

/-- R135, R138: the symbols that end an interrupted frame, with the packets of its gaps in their places. -/
def State.endingOut (s : State) : List Symbol :=
  s.packetsOf s.room ++ s.lineMark ++ (s.packetsOf (s.room + s.lineRoom)).drop s.room ++ s.frameMark
    ++ (s.packetsOf s.endingRoom).drop (s.room + s.lineRoom)

theorem ended_linkOut (s : State) : (closeGap (endLineAndFrame s)).linkOut = s.linkOut ++ s.endingOut := by
  obtain ⟨a, hline, ha⟩ := endLine_sends s
  have hlineOut : (closeGap (endLine s)).linkOut =
      s.linkOut ++ s.packetsOf s.room ++ s.lineMark ++ (s.packetsOf (s.room + s.lineRoom)).drop s.room :=
    endOpen_linkOut (.inl rfl) s (endLine_room s)
  have hframeOut : (closeGap (endFrame (endLine s))).linkOut = (closeGap (endLine s)).linkOut
      ++ (endLine s).frameMark ++ ((endLine s).packetsOf ((endLine s).room + (endLine s).frameRoom)).drop
        (endLine s).room := by
    rw [closeGap_linkOut (endLine s)]
    exact endOpen_linkOut (.inr rfl) (endLine s) (endFrame_room (endLine s))
  rw [endLineAndFrame_eq, hframeOut, hlineOut, endLine_frameMark, endLine_frameRoom,
    packetsOf_drop hline.replies hline.unit, List.drop_drop, ← Nat.add_assoc, ha]
  simp only [State.endingOut, State.endingRoom, List.append_assoc]

end Sends

end Sys2Proof.Machine

namespace Sys2Proof.Machine

/-! ### The notice of the change, offered as the frame is ended (R137, R159, R161) -/

section Offer

variable {s t u x z : State} {a b : Nat} {m m' : List Symbol} {c : Fin 4} {payload : List Byte}

theorem reservations_engineBehind (h : t.engine = s.engineBehind a) : t.reservations = s.reservations := by
  by_cases hwakes : s.engine = .waiting ∧ s.replyQueue ≠ [] ∧ 0 < a
  · rw [State.engineBehind, if_pos hwakes] at h
    rw [State.reservations, State.reservations, h, hwakes.1]
  · rw [State.engineBehind, if_neg hwakes] at h
    rw [State.reservations, State.reservations, h]

theorem Sends.session (h : Sends a m s t) (e : Fin 4) : t.session e = s.session e := session_congr t s h.sessions e

theorem Sends.control (h : Sends a m s t) (hc : s.control c) : t.control c := fun e => by
  rw [h.session e]
  exact hc e

theorem Sends.noControl (h : Sends a m s t) (hc : s.noControl) : t.noControl := fun e he => by
  rw [h.session e] at he ⊢
  exact hc e he

/-- Entries that leave make room. -/
theorem Sends.hasReplyRoom (h : Sends a m s t) (hroom : s.hasReplyRoom) : t.hasReplyRoom := by
  have hlength := congrArg List.length h.replies
  have hreserved := reservations_engineBehind h.engine
  rw [List.length_drop] at hlength
  simp only [State.hasReplyRoom] at hroom ⊢
  omega

/-- Only entries that leave make room. -/
theorem Sends.hasReplyRoom_or (h : Sends a m s t) (hroom : t.hasReplyRoom) :
    s.hasReplyRoom ∨ (0 < a ∧ s.replyQueue ≠ []) := by
  have hlength := congrArg List.length h.replies
  have hreserved := reservations_engineBehind h.engine
  rw [List.length_drop] at hlength
  simp only [State.hasReplyRoom] at hroom ⊢
  rw [← List.length_pos_iff]
  omega

/-- Where there was room before any entry left, the engine contests the notice's entry only if none has left (R161). -/
theorem Sends.contested (h : Sends a m s t) (hroom : s.hasReplyRoom) (hcontested : t.contested) : s.contested := by
  obtain ⟨⟨hengine, p, rest, hqueue, hsession⟩, hseven⟩ := hcontested
  have hlength := congrArg List.length h.replies
  rw [List.length_drop] at hlength
  simp only [State.hasReplyRoom] at hroom
  obtain rfl : a = 0 := by omega
  exact ⟨⟨(h.engine.trans (engineBehind_zero s)) ▸ hengine, p, rest, h.commands ▸ hqueue, hsession⟩, by omega⟩

theorem Sends.engine_reserved (h : Sends a m s t) (hreserved : s.engine = .reserved) : t.engine = .reserved := by
  rw [h.engine, State.engineBehind, if_neg (by simp [hreserved]), hreserved]

theorem reportLockChange_linkOut (s : State) : (reportLockChange s).linkOut = s.linkOut := by simp

theorem reportLockChange_tx (s : State) : (reportLockChange s).tx = s.tx := by simp

theorem reportLockChange_replies (s : State) : ∃ told, (reportLockChange s).replyQueue = s.replyQueue ++ told := by
  have hoffer (e : Fin 4) (p : List Byte) : ∃ told, (offerNotice e p s).replyQueue = s.replyQueue ++ told := by
    cases ho : (s.session e).isOpen with
    | false => exact ⟨[], by rw [offerNotice_closed e p s ho, List.append_nil]⟩
    | true =>
      obtain ⟨hroom, hnone⟩ := offerNotice_offered e p s ho
      by_cases h : s.hasReplyRoom
      · rcases hroom h with ⟨hjoined, -⟩ | ⟨-, ⟨hlost, -⟩, -⟩
        · exact ⟨_, hjoined⟩
        · exact ⟨[], by rw [hlost, List.append_nil]⟩
      · exact ⟨[], by rw [(hnone h).1.1, List.append_nil]⟩
  unfold reportLockChange
  split
  · exact hoffer _ _
  · exact ⟨[], (List.append_nil _).symm⟩

/-- A notice takes the place of no entry that stood before it. -/
theorem reportLockChange_packetsOf (h : s.noControl ∨ a ≤ s.replyQueue.length) :
    (reportLockChange s).packetsOf a = s.packetsOf a := by
  rcases h with hno | hlength
  · rw [reportLockChange_of_noControl hno]
  · obtain ⟨told, htold⟩ := reportLockChange_replies s
    simp only [State.packetsOf, reportLockChange_frame, htold, List.take_append_of_le_length hlength]

/-- Behind `a` entries of a queue that have left, a notice joins, and `b` more entries leave: together they are the oldest of
the queue with the notice at its back. -/
theorem drop_append_drop (q : List Outgoing) (o : Outgoing) (a b : Nat) :
    ∃ n, (q.drop a ++ [o]).drop b = (q ++ [o]).drop n ∧ q.take a ++ (q.drop a ++ [o]).take b = (q ++ [o]).take n
      ∧ (n = min (a + b) q.length ∨ (q.length < a + b ∧ n = q.length + 1)) := by
  have hlength : (q ++ [o]).length = q.length + 1 := by simp
  have hleft : min a q.length ≤ q.length := Nat.min_le_right _ _
  have hdrop : q.drop a ++ [o] = (q ++ [o]).drop (min a q.length) := by
    have hsame : q.drop a = q.drop (min a q.length) := List.drop_eq_drop_iff.2 (by omega)
    rw [List.drop_append_of_le_length hleft, hsame]
  have htake : q.take a = (q ++ [o]).take (min a q.length) := by
    rw [List.take_append_of_le_length hleft, List.take_eq_take_min]
  refine ⟨min (min a q.length + b) (q.length + 1), ?_, ?_, by omega⟩
  · rw [hdrop, List.drop_drop, List.drop_eq_drop_iff, hlength]
    omega
  · rw [htake, hdrop, ← List.take_add, List.take_eq_take_iff, hlength]
    omega

/-- R159: between `s` and `t`, where at most `room` entries left, the notice joined behind all that stood there. -/
def NoticeJoined (s t : State) (c : Fin 4) (payload : List Byte) (room : Nat) : Prop :=
  let told : State := { s with replyQueue := s.replyQueue ++ [⟨.notice, (s.session c).peer, 0, payload⟩] }
  t.sessions = s.sessions ∧ ∃ n, t.replyQueue = told.replyQueue.drop n ∧ packetsIn t.linkOut = told.packetsOf n
    ∧ (n = min room s.replyQueue.length ∨ (s.replyQueue.length < room ∧ n = s.replyQueue.length + 1))

/-- R159: between `s` and `t`, where `room` entries left, the notice was lost. -/
def NoticeLost (s t : State) (c : Fin 4) (room : Nat) : Prop :=
  t.replyQueue = s.replyQueue.drop room ∧ packetsIn t.linkOut = s.packetsOf room
    ∧ t.session c = { s.session c with noticeLost := true } ∧ ∀ e : Fin 4, e ≠ c → t.session e = s.session e

theorem noticeLost_of_dropped (hlink : s.linkOut = []) (hx : Sends a m s x)
    (hz : Sends b m' (reportLockChange x) z) (hdropped : noticeDropped x (reportLockChange x) c) :
    NoticeLost s z c (a + b) := by
  obtain ⟨hreplies, hflag, hothers⟩ := hdropped
  refine ⟨by rw [hz.replies, hreplies, hx.replies, List.drop_drop], ?_, by rw [hz.session, hflag, hx.session],
    fun e he => by rw [hz.session, hothers e he, hx.session]⟩
  have hpackets : (reportLockChange x).packetsOf b = x.packetsOf b := packetsOf_congr hreplies (by simp) b
  rw [hz.packets, hpackets, reportLockChange_linkOut, hx.packets, hlink,
    packetsOf_add hx.replies hx.unit]
  rfl

theorem noticeJoined_of_joins (hlink : s.linkOut = []) (hx : Sends a m s x) (hz : Sends b m' (reportLockChange x) z)
    (hreplies : (reportLockChange x).replyQueue = x.replyQueue ++ [⟨.notice, (x.session c).peer, 0, payload⟩])
    (hsessions : (reportLockChange x).sessions = x.sessions) : NoticeJoined s z c payload (a + b) := by
  obtain ⟨n, hdrop, htake, hn⟩ := drop_append_drop s.replyQueue ⟨.notice, (s.session c).peer, 0, payload⟩ a b
  rw [hx.session, hx.replies] at hreplies
  refine ⟨hz.sessions.trans (hsessions.trans hx.sessions), n, by rw [hz.replies, hreplies, hdrop], ?_, hn⟩
  rw [hz.packets, reportLockChange_linkOut, hx.packets, hlink]
  simp only [State.packetsOf, reportLockChange_frame, hx.unit, hreplies, ← htake, List.map_append]
  rfl

/-- R159, R161: what becomes of the notice, wherever among the gaps it is offered. -/
theorem noticeJoined_or_lost (hlink : s.linkOut = []) (hx : Sends a m s x)
    (hz : Sends b m' (reportLockChange x) z) (hc : s.control c) :
    let joined := NoticeJoined s z c (lockChangedPayload x.rx.lock x.rx.geometry) (a + b)
    let lost := NoticeLost s z c (a + b)
    (s.hasReplyRoom → joined ∨ (s.contested ∧ lost ∧ z.engine = .reserved))
    ∧ (¬ s.hasReplyRoom → lost ∨ (joined ∧ 0 < a + b ∧ s.replyQueue ≠ [])) := by
  intro joined lost
  obtain ⟨hroom, hnone⟩ := (reportLockChange_told (s := x) ⟨rfl, rfl, rfl, rfl⟩).1 c (hx.control hc)
  have hlost (h : noticeDropped x (reportLockChange x) c) : lost := noticeLost_of_dropped hlink hx hz h
  refine ⟨fun h => ?_, fun h => ?_⟩
  · rcases hroom (hx.hasReplyRoom h) with ⟨hreplies, hsessions, -⟩ | ⟨hcontested, hdropped, hengine⟩
    · exact .inl (noticeJoined_of_joins hlink hx hz hreplies hsessions)
    · exact .inr ⟨hx.contested h hcontested, hlost hdropped, hz.engine_reserved hengine⟩
  · by_cases hmade : x.hasReplyRoom
    · obtain ⟨hpos, hq⟩ := (hx.hasReplyRoom_or hmade).resolve_left h
      rcases hroom hmade with ⟨hreplies, hsessions, -⟩ | ⟨-, hdropped, -⟩
      · exact .inr ⟨noticeJoined_of_joins hlink hx hz hreplies hsessions, Nat.add_pos_left hpos b, hq⟩
      · exact .inl (hlost hdropped)
    · exact .inl (hlost (hnone hmade).1)

end Offer

section Interrupted

variable {s t u : State}

theorem lineRoom_congr (h : t.tx = s.tx) : t.lineRoom = s.lineRoom := by rw [State.lineRoom, h, State.lineRoom]

theorem lineMark_congr (h : t.tx = s.tx) : t.lineMark = s.lineMark := by rw [State.lineMark, h, State.lineMark]

theorem frameMark_congr (h : t.tx = s.tx) : t.frameMark = s.frameMark := by rw [State.frameMark, h, State.frameMark]

theorem room_congr (h : t.tx = s.tx) : t.room = s.room := by rw [State.room, h, State.room]

theorem endingRoom_congr (h : t.tx = s.tx) : t.endingRoom = s.endingRoom := by
  rw [State.endingRoom, room_congr h, lineRoom_congr h, State.frameRoom, h, State.endingRoom, State.frameRoom]

theorem endingOut_congr (h : t.tx = s.tx) (hpackets : ∀ n ≤ s.endingRoom, t.packetsOf n = s.packetsOf n) :
    t.endingOut = s.endingOut := by
  have hroom : s.room ≤ s.endingRoom := (Nat.le_add_right _ _).trans (Nat.le_add_right _ _)
  have hline : s.room + s.lineRoom ≤ s.endingRoom := Nat.le_add_right _ _
  rw [State.endingOut, room_congr h, lineRoom_congr h, lineMark_congr h, frameMark_congr h, endingRoom_congr h,
    hpackets _ hroom, hpackets _ hline, hpackets _ le_rfl, State.endingOut]

/-- Outside a line, a frame and a gap there is nothing to end. -/
theorem ending_of_closed (hline : s.tx.lineOpen = false) (hframe : s.tx.frameOpen = false) (hgap : s.tx.gap = none) :
    s.endingRoom = 0 ∧ s.endingOut = [] := by
  have hroom : s.room = 0 := by rw [State.room, hgap]
  simp [State.endingOut, State.endingRoom, State.lineRoom, State.frameRoom, State.lineMark, State.frameMark, hline,
    hframe, hroom, packetsOf_zero]

theorem ended_sends_congr (h : t.tx = s.tx) :
    Sends s.endingRoom (s.lineMark ++ s.frameMark) t (closeGap (endLineAndFrame t)) := by
  rw [← endingRoom_congr h, ← lineMark_congr h, ← frameMark_congr h]
  exact ended_sends t

/-- R137, log entry 6: the notice is offered behind `a` of the entries that leave, and before `b`. -/
theorem endInterruptedFrame_parts (s : State) : ∃ (x : State) (a b : Nat) (m m' : List Symbol), Sends a m s x
    ∧ Sends b m' (reportLockChange x) (endInterruptedFrame reportLockChange s) ∧ a + b = s.endingRoom
    ∧ m ++ m' = s.lineMark ++ s.frameMark := by
  obtain ⟨a, hended, ha⟩ := endLineAndFrame_sends s.draw.2
  have hsent := ((sends_draw s).trans hended).trans (sends_draw _)
  simp only [Nat.zero_add, Nat.add_zero, List.nil_append, List.append_nil] at hsent
  unfold endInterruptedFrame
  dsimp only
  split_ifs
  · exact ⟨_, 0, _, [], _, sends_draw s, ended_sends_congr (s := s) (reportLockChange_tx s.draw.2), Nat.zero_add _, rfl⟩
  · have hclosed := sends_closeGap (reportLockChange (endLineAndFrame s.draw.2).draw.2)
    rw [room_congr (reportLockChange_tx _)] at hclosed
    exact ⟨_, _, _, _, _, hsent, hclosed, ha, List.append_nil _⟩
  · have hclosed := hsent.trans (sends_closeGap _)
    exact ⟨_, _, 0, _, [], hclosed, sends_refl _, ha, (List.append_nil _).trans (List.append_nil _)⟩

theorem endInterruptedFrame_ends (s : State) : endsIn (endInterruptedFrame reportLockChange s).linkOut =
    endsIn s.linkOut ++ (s.lineMark ++ s.frameMark) := by
  obtain ⟨x, a, b, m, m', hx, hz, -, hmarks⟩ := endInterruptedFrame_parts s
  rw [hz.ends, reportLockChange_linkOut, hx.ends, List.append_assoc, hmarks]

theorem endInterruptedFrame_sends (h : s.noControl) :
    ∃ m, Sends s.endingRoom m s (endInterruptedFrame reportLockChange s) := by
  obtain ⟨x, a, b, m, m', hx, hz, hroom, -⟩ := endInterruptedFrame_parts s
  rw [reportLockChange_of_noControl (hx.noControl h)] at hz
  exact ⟨_, hroom ▸ hx.trans hz⟩

/-- The output stands where the end of its line and of its frame leave it, wherever the notice is offered. -/
theorem endInterruptedFrame_tx (s : State) : (endInterruptedFrame reportLockChange s).tx =
    ⟨s.tx.mode, none, s.tx.generator, false, false, (endInterruptedFrame reportLockChange s).tx.linePixels⟩ := by
  have hended : ∃ u : State, u.tx = s.tx
      ∧ (endInterruptedFrame reportLockChange s).tx = (closeGap (endLineAndFrame u)).tx := by
    unfold endInterruptedFrame
    dsimp only
    split_ifs
    · exact ⟨reportLockChange s.draw.2, reportLockChange_tx _, rfl⟩
    · exact ⟨s.draw.2, rfl, by rw [closeGap_tx, reportLockChange_tx, closeGap_tx]; rfl⟩
    · exact ⟨s.draw.2, rfl, by rw [reportLockChange_tx, closeGap_tx, closeGap_tx]; rfl⟩
  obtain ⟨u, hu, htx⟩ := hended
  rw [htx, ended_tx u, hu]

/-- A notice that no entry makes room for, or that is not made, leaves the packets as they are. -/
theorem endInterruptedFrame_linkOut (h : s.noControl ∨ s.endingRoom ≤ s.replyQueue.length) :
    (endInterruptedFrame reportLockChange s).linkOut = s.linkOut ++ s.endingOut := by
  have hended : (closeGap (endLineAndFrame s.draw.2)).linkOut = s.linkOut ++ s.endingOut := ended_linkOut s.draw.2
  unfold endInterruptedFrame
  dsimp only
  split_ifs
  · rw [ended_linkOut, reportLockChange_linkOut, endingOut_congr (s := s) (reportLockChange_tx s.draw.2)]
    · rfl
    · exact fun n hn => reportLockChange_packetsOf (s := s.draw.2) (h.imp_right hn.trans)
  · obtain ⟨a, hsent, ha⟩ := endLineAndFrame_sends s.draw.2
    have ha' : a + (endLineAndFrame s.draw.2).room = s.endingRoom := ha
    have hroom : (endLineAndFrame s.draw.2).draw.2.noControl
        ∨ (endLineAndFrame s.draw.2).draw.2.room ≤ (endLineAndFrame s.draw.2).draw.2.replyQueue.length := by
      refine h.imp (fun hno => hsent.noControl hno) fun hlength => ?_
      have hqueue := congrArg List.length hsent.replies
      rw [List.length_drop] at hqueue
      change (endLineAndFrame s.draw.2).room ≤ (endLineAndFrame s.draw.2).replyQueue.length
      change _ = s.replyQueue.length - a at hqueue
      omega
    rw [closeGap_linkOut, reportLockChange_linkOut, room_congr (reportLockChange_tx _),
      reportLockChange_packetsOf hroom, ← hended, closeGap_linkOut]
    rfl
  · rw [reportLockChange_linkOut, ← hended, closeGap_linkOut, closeGap_linkOut]
    rfl

theorem endInterruptedFrame_frame (s : State) :
    (endInterruptedFrame reportLockChange s).rx = s.rx ∧ (endInterruptedFrame reportLockChange s).comp = s.comp
    ∧ (endInterruptedFrame reportLockChange s).scene = s.scene
    ∧ (endInterruptedFrame reportLockChange s).cells = s.cells
    ∧ (endInterruptedFrame reportLockChange s).settings = s.settings := by
  unfold endInterruptedFrame
  dsimp only
  split_ifs <;> simp [State.draw]

end Interrupted

/-! ### The rows of the watchdog (R121) -/

section Watchdog

variable {s : State} {g : Geometry}

theorem exec_watchdogExpiry_stopped (hs : s.settled) (h : s.rx.watchdog = none) :
    exec .watchdogExpiry s = .next s.quiet := by
  change execWatchdogExpiry s = _
  rw [execWatchdogExpiry, ready_of_settled s hs]
  exact congrArg _ (if_neg (by simp [State.quiet, h]))

theorem exec_watchdogExpiry (hs : s.settled) (h : s.rx.watchdog.isSome = true) :
    exec .watchdogExpiry s = .next (expireWatchdog s.quiet) := by
  change execWatchdogExpiry s = _
  rw [execWatchdogExpiry, ready_of_settled s hs]
  exact congrArg _ (if_pos h)

/-- The state that an expiry in LOCKED reports, or in which it ends the frame of the output (R121, R130). -/
def State.losing (s : State) (lock : LockState) (mode : OutputMode) : State :=
  loseLock lock mode { s.quiet with rx := { s.rx with watchdog := none } }

theorem exec_watchdogExpiry_locked (hs : s.settled) (h : s.rx.watchdog.isSome = true) (hlock : s.rx.lock = .locked) :
    exec .watchdogExpiry s = .next (if s.settings.fallback then
      startGenerator (endInterruptedFrame reportLockChange (s.losing .holdover .generate))
      else reportLockChange (s.losing .search .pass)) := by
  have hlock' : s.quiet.rx.lock = .locked := hlock
  rw [exec_watchdogExpiry hs h, expireWatchdog]
  simp only [hlock']
  rfl

/-- R138: the generator starts with the held geometry. -/
theorem startGenerator_eq (hg : s.rx.geometry = some g) : startGenerator s =
    { s with tx := { s.tx with generator := .running g .start s.settings.period } } := by
  simp only [startGenerator, hg]

end Watchdog

/-- Settles O24. -/
theorem watchdogExpiryLosesTheInput : Obligations.WatchdogExpiryLosesTheInput := by
  refine ⟨fun s hs => ⟨exec_watchdogExpiry_stopped hs, fun hw => ⟨fun hlock => ?acquire, fun hlock => ?holdover,
    fun hlock hoff => ?search⟩⟩, fun s g hs hw hlock hg hfallback => ?fallback⟩
  case acquire =>
    have hlock' : s.quiet.rx.lock = .acquire := hlock
    rw [exec_watchdogExpiry hs hw, expireWatchdog]
    simp only [hlock']
    rfl
  case holdover =>
    have hlock' : s.quiet.rx.lock = .holdover := hlock
    rw [exec_watchdogExpiry hs hw, expireWatchdog]
    simp only [hlock']
    rw [← hlock]
    rfl
  case search =>
    refine ⟨reportLockChange (s.losing .search .pass), ?_, ?_⟩
    · rw [exec_watchdogExpiry_locked hs hw hlock, if_neg (by simp [hoff])]
    · obtain ⟨htold, huntold⟩ := reportLockChange_told (s := s) (u := s.losing .search .pass) ⟨rfl, rfl, rfl, rfl⟩
      simp only [reportLockChange_frame]
      exact ⟨rfl, rfl, rfl, rfl, rfl, rfl, htold, huntold⟩
  case fallback =>
    let lost : State := s.losing .holdover .generate
    obtain ⟨x, a, b, m, m', hx, hz, hroom, -⟩ := endInterruptedFrame_parts lost
    obtain ⟨hrx, hcomp, hscene, hcells, hsettings⟩ := endInterruptedFrame_frame lost
    have htx := endInterruptedFrame_tx lost
    have hends := endInterruptedFrame_ends lost
    have hsends := endInterruptedFrame_sends (s := lost)
    have hout := endInterruptedFrame_linkOut (s := lost)
    have hexec : exec .watchdogExpiry s = .next (startGenerator (endInterruptedFrame reportLockChange lost)) := by
      rw [exec_watchdogExpiry_locked hs hw hlock, if_pos hfallback]
    have hgeometry : (endInterruptedFrame reportLockChange lost).rx.geometry = some g := by
      rw [hrx]
      exact hg
    rw [startGenerator_eq hgeometry] at hexec
    generalize endInterruptedFrame reportLockChange lost = z at *
    refine ⟨_, hexec, hrx, by rw [htx, hsettings]; rfl, by rw [hcomp]; rfl, hscene, hcells, hsettings, hends, ?told,
      fun hline hframe hgap => ?quiet⟩
    case told =>
      refine ⟨hout, fun hno => ?_, fun c hc => ?_⟩
      · obtain ⟨m, hsent⟩ := hsends hno
        exact ⟨hsent.replies, hsent.sessions⟩
      · have hnotice := noticeJoined_or_lost rfl hx hz hc
        rw [hroom, hx.rx] at hnotice
        exact hnotice
    case quiet =>
      obtain ⟨hnone, hempty⟩ := ending_of_closed (s := lost) hline hframe hgap
      obtain ⟨rfl, rfl⟩ := Nat.add_eq_zero_iff.1 (hroom.trans hnone)
      refine ⟨(hout (.inr (hnone ▸ Nat.zero_le _))).trans hempty, fun c hc => ?_⟩
      obtain ⟨hreplies, hsessions, hengine, hcommands⟩ := hx.sameDesk
      have hdesk : SameDesk s x := ⟨hreplies, hsessions, hengine, hcommands⟩
      have hoffered := (reportLockChange_told hdesk).1 c hc
      rw [hx.rx] at hoffered
      exact hz.sameDesk.noticeOffered_right hoffered

end Sys2Proof.Machine

namespace Sys2Proof.Machine

/-! ### The rows of the generator (R139) -/

/-- The Compositor at a generated LS: an active line of a frame being drawn owes its fetches (R99, R101). -/
def Compositor.generatedLine (comp : Compositor) (live : Scene) (g : Geometry) (k : Nat) : Compositor :=
  if g.active k = true ∧ comp.frame = .drawing then
    { comp with owed := fetchesAt live (k - g.l0), reads := Vector.replicate 8 none }
  else comp

/-- Between `s` and `v` the generator's symbol is output, the Compositor becomes `comp`, and the rest of the part stands. -/
structure Generated (sym : Symbol) (comp : Compositor) (s v : State) : Prop where
  last : v.linkOut.getLast? = some sym
  comp : v.comp = comp
  rx : v.rx = s.rx
  scene : v.scene = s.scene
  sessions : v.sessions = s.sessions
  cells : v.cells = s.cells
  mode : v.tx.mode = s.tx.mode

section Generator

variable {s v : State} {g : Geometry} {pos : GenPos} {period k x : Nat} {sym : Symbol} {comp : Compositor}

theorem exec_generatedSymbol (hs : s.settled) (hgen : s.tx.generator = .running g pos period) :
    exec .generatedSymbol s = .next (generateSymbol g pos period s.quiet) := by
  change execGeneratedSymbol s = _
  simp only [execGeneratedSymbol, ready_of_settled s hs, quiet_tx, hgen]

/-- The gap in hand closes before each symbol of the generator (R135, R139). -/
theorem putSymbol_generated (sym : Symbol) (s : State) :
    Generated sym s.comp s (putSymbol sym (closeGap s.quiet)) := by
  constructor <;> simp

theorem Generated.withComp (h : Generated sym comp s v) (comp' : Compositor) :
    Generated sym comp' s { v with comp := comp' } :=
  ⟨h.last, rfl, h.rx, h.scene, h.sessions, h.cells, h.mode⟩

theorem generateSymbol_line (g : Geometry) (k period : Nat) (s : State) :
    generateSymbol g (.line k) period s.quiet =
      setGenerator g (if g.l0 ≤ k ∧ k < g.l0 + g.h then .pixel k 0 else .lineEnd k) period
        { putSymbol (.ls k) (closeGap s.quiet) with comp := s.comp.generatedLine s.scene.live g k } := by
  have hput := putSymbol_generated (.ls k) s
  rw [← hput.comp, ← hput.scene]
  simp only [generateSymbol, Compositor.generatedLine, ← active_iff]
  generalize putSymbol (.ls k) (closeGap s.quiet) = v
  by_cases hactive : g.active k = true
  · by_cases hdrawing : v.comp.frame = .drawing
    · simp [hactive, ← hdrawing, composeLineStart]
    · simp only [hactive, hdrawing, and_false, if_true, if_false]
  · simp only [hactive, false_and, Bool.false_eq_true, if_false]

/-- A generated pixel of a frame that is not being drawn is the live fill colour (R109, R139). -/
theorem generatedPixel_undrawn (g : Geometry) (k x : Nat) (hframe : s.comp.frame ≠ .drawing) :
    Generated (.px s.scene.live.fill) s.comp s (generatedPixel g k x (closeGap s.quiet)) := by
  have hput : generatedPixel g k x (closeGap s.quiet) = putSymbol (.px s.scene.live.fill) (closeGap s.quiet) := by
    simp [generatedPixel, hframe]
  rw [hput]
  exact putSymbol_generated _ s

/-- Of a frame being drawn it is the Compositor's result over that colour, behind the owed fetches (R101, R109, R139). -/
theorem generatedPixel_drawn (g : Geometry) (k x : Nat) (hframe : s.comp.frame = .drawing) :
    let mixed := mixPixel (fetchAll s) x (k - g.l0) s.scene.live.fill
    Generated (.px mixed.result) { (fetchAll s).comp with reads := mixed.reads } s
      (generatedPixel g k x (closeGap s.quiet)) := by
  have hclosed : PictureKept s (closeGap s.quiet) := (quiet_pictureKept s).trans (closeGap_pictureKept s.quiet)
  let composed := composePixel x (k - g.l0) s.scene.live.fill (closeGap s.quiet)
  have hput : generatedPixel g k x (closeGap s.quiet) = putSymbol (.px composed.1) composed.2 := by
    simp [generatedPixel, hframe, composed]
  have hresult : composed.1 = (composePixel x (k - g.l0) s.scene.live.fill s).1 := hclosed.composePixel_result ..
  have hcomp : composed.2.comp = (composePixel x (k - g.l0) s.scene.live.fill s).2.comp :=
    (hclosed.composePixel x (k - g.l0) s.scene.live.fill).comp
  rw [hput, hresult]
  refine ⟨by simp [composePixel], by simp [hcomp, composePixel], ?_, ?_, ?_, ?_, ?_⟩ <;>
    simp [composed, composePixel]

/-- With no window in the live Order the Compositor's result is the pixel it is formed over (R109). -/
theorem mixPixel_of_no_order {s : State} (x y : Nat) (original : RGB) (h : s.scene.live.order = []) :
    (mixPixel s x y original).result = original := by
  rw [mixPixel, h]
  rfl

end Generator

/-- Settles O26. -/
theorem generatorMakesItsFrame : Obligations.GeneratorMakesItsFrame := by
  intro s g pos period k x hs hgen makes
  have hmakes {v : State} {sym : Symbol} {comp : Compositor} {next : GenPos} (hv : Generated sym comp s v)
      (hrow : generateSymbol g pos period s.quiet = setGenerator g next period v) :
      makes sym next (setGenerator g next period v) :=
    ⟨(exec_generatedSymbol hs hgen).trans (congrArg _ hrow), hv.last, rfl, hv.rx, hv.scene, hv.sessions, hv.cells,
      hv.mode⟩
  refine ⟨?line, ?pixel, ?lineEnd, ?frameEnd⟩
  case line =>
    rintro rfl
    have hv := (putSymbol_generated (.ls k) s).withComp (s.comp.generatedLine s.scene.live g k)
    refine ⟨_, hmakes hv (generateSymbol_line g k period s), rfl, fun hidle => ?_, fun hdrawing hfirst hlast a f => ?_⟩
    · refine if_neg fun ⟨hactive, hdrawing⟩ => ?_
      have hinside := (active_iff g k).1 hactive
      have hout := hidle.resolve_left (not_not_intro hdrawing)
      omega
    · have howes : (s.comp.generatedLine s.scene.live g k).owed = fetchesAt s.scene.live (k - g.l0) := by
        rw [Compositor.generatedLine, if_pos ⟨(active_iff g k).2 ⟨hfirst, hlast⟩, hdrawing⟩]
      simp only [setGenerator_comp, howes, mem_fetchesAt, fetchAt_eq_some_iff]
  case pixel =>
    rintro rfl
    by_cases hframe : s.comp.frame = .drawing
    · have hv := generatedPixel_drawn g k x hframe
      refine ⟨_, _, hmakes hv rfl, fun hplain => ?_, fun _ howed => ?_, fun _ => ⟨rfl, hv.comp⟩⟩
      · exact mixPixel_of_no_order _ _ _ (by simpa using hplain.resolve_left (not_not_intro hframe))
      · rw [fetchAll_of_none_owed howed]
    · exact ⟨_, _, hmakes (generatedPixel_undrawn g k x hframe) rfl, fun _ => rfl, fun h => absurd h hframe,
        fun h => absurd h hframe⟩
  case lineEnd =>
    rintro rfl
    have hv := putSymbol_generated .le s
    refine ⟨_, hmakes hv rfl, hv.comp, fun hopen => ?_⟩
    have hopen' : (closeGap s.quiet).tx.lineOpen = true := by simp [hopen]
    rw [setGenerator_tx, putSymbol_le_of_lineOpen hopen', closeGap_linePixels]
    rfl
  case frameEnd =>
    rintro rfl
    exact ⟨_, hmakes ((putSymbol_generated .fe s).withComp _) rfl, rfl, rfl, rfl⟩

end Sys2Proof.Machine

namespace Sys2Proof.Machine

/-! ### A generated FS (R139, R140) -/

section GeneratedFrameStart

variable {s : State} {g : Geometry} {pos : GenPos} {period : Nat}

/-- The part where a generated frame begins: LINK OUT released, and the generator in a period of the length now set (R140). -/
def State.beginning (s : State) (g : Geometry) : State := setGenerator g (.line 0) s.settings.period s.quiet

theorem exec_generatedFrameStart (hs : s.settled) (hgen : s.tx.generator = .running g pos period)
    (hpos : pos = .start ∨ (pos = .ended ∧ s.rx.acquired = none)) :
    exec .generatedFrameStart s =
      .next (putSymbol .fs (orderedClose (compositedFrameStart (some g)) (s.beginning g))) := by
  change execGeneratedFrameStart s = _
  rcases hpos with rfl | ⟨rfl, hacquired⟩
  · simp only [execGeneratedFrameStart, ready_of_settled s hs, quiet_tx, hgen]
    rfl
  · simp only [execGeneratedFrameStart, ready_of_settled s hs, quiet_tx, hgen, quiet_rx, hacquired]
    rfl

/-- While an acquisition waits, the FS does not arise (R124). -/
theorem exec_generatedFrameStart_acquired (hs : s.settled) (hgen : s.tx.generator = .running g .ended period)
    (hacquired : s.rx.acquired ≠ none) : exec .generatedFrameStart s = .next s.quiet := by
  obtain ⟨a, ha⟩ := Option.ne_none_iff_exists'.1 hacquired
  change execGeneratedFrameStart s = _
  simp only [execGeneratedFrameStart, ready_of_settled s hs, quiet_tx, hgen, quiet_rx, ha]

theorem orderedClose_tx {act : State → State} (hact : ∀ u, (act u).tx = u.tx) :
    (orderedClose act s).tx = { s.tx with gap := none } := by
  unfold orderedClose
  dsimp only
  split
  · split_ifs <;> simp only [closeGap_tx, settleSome_frame, hact, draw_tx]
  · next hgap => rw [hact, ← hgap]

/-- The generated FS begins a frame of the held geometry, with the gap before it closed in either order (R137, R139). -/
theorem generatedFrame_started (s : State) (g : Geometry) :
    FrameStarted s.rx (some g) s.tx.mode s (orderedClose (compositedFrameStart (some g)) (s.beginning g)) := by
  have hbase : Linked s.rx s.comp s.tx.mode s (s.beginning g) := ⟨untouched_link, rfl, rfl, rfl, rfl, rfl⟩
  refine orderedClose_rule (J := FrameStarted s.rx (some g) s.tx.mode s) (fun u hu hsessions => ?_)
    (fun _ hu => hu.settleSome) fun _ hu => hu.closeGap
  have hlinked : Linked s.rx s.comp s.tx.mode s u := hbase.trans hu
  have hstart : FrameStarted u.rx (some g) u.tx.mode u (compositedFrameStart (some g) u) :=
    compositedFrameStart_started (comp := u.comp) rfl
  rw [hlinked.rx, hlinked.mode] at hstart
  exact hstart.of_linked hlinked hsessions

end GeneratedFrameStart

/-- Settles O25. -/
theorem generatedFrameStartIsComposited : Obligations.GeneratedFrameStartIsComposited := by
  intro s g pos period hs hgen
  refine ⟨fun hpos => ⟨_, exec_generatedFrameStart hs hgen hpos, ?begins⟩, fun hpos hacquired => ?waits⟩
  case begins =>
    have hu := generatedFrame_started s g
    have htx : (orderedClose (compositedFrameStart (some g)) (s.beginning g)).tx =
      { (s.beginning g).tx with gap := none } := orderedClose_tx fun _ => rfl
    generalize orderedClose (compositedFrameStart (some g)) (s.beginning g) = u at hu htx ⊢
    simp only [putSymbol_frame, putSymbol_linkOut, hu.rx, hu.comp, hu.counter, hu.cells, hu.glyphs,
      List.getLast?_concat]
    refine ⟨?_, trivial, fun e ho hl => ?_, rfl, rfl, fun k => ?_, rfl, rfl, trivial, trivial, trivial, trivial⟩
    · change { u.tx.follow .fs with gap := none } = _
      rw [htx]
      rfl
    · have hclock := hu.idle e ho hl
      simp only [Session.clock, Prod.mk.injEq] at hclock
      rw [session_congr _ u (by simp)]
      exact ⟨hclock.1, hclock.2.1⟩
    · simp [Compositor.startFrame]
  case waits =>
    subst hpos
    exact exec_generatedFrameStart_acquired hs hgen hacquired

end Sys2Proof.Machine

namespace Sys2Proof.Machine

/-! ### What a row adds to the Reply Queue (R15, R128, R156, R159) -/

/-- Between `s` and `t` only notices join the Reply Queue, none where `silent` holds; no engine begins to wait, and the
output stands where it stood. -/
structure Tells (silent : Prop) (s t : State) : Prop where
  replies : ∃ told : List Outgoing, (∀ o ∈ told, o.kind = .notice ∧ o.seq = 0) ∧ (silent → told = [])
    ∧ t.replyQueue = s.replyQueue ++ told
  waiting : t.engine = .waiting → s.engine = .waiting
  gap : t.tx.gap = s.tx.gap
  unit : t.unitAddress = s.unitAddress
  linkOut : t.linkOut = s.linkOut

/-- No notice has a session to go to (R15, R128, R156). -/
def State.unheard (s : State) : Prop := s.noControl ∧ s.scene.commit.issuer = none

/-- Nothing of a frame start is owed that tells anybody (R15, R156). -/
def State.owesNoNotice (s : State) : Prop :=
  s.nothingOwed ∨ s.unheard
    ∨ (s.scene.commit.pending = false ∧ s.expiringEntries = [] ∧ s.expired = [])

section Tells

variable {P Q : Prop} {s t u : State}

theorem tells_of_kept (hreplies : t.replyQueue = s.replyQueue) (hwaiting : t.engine = .waiting → s.engine = .waiting)
    (hgap : t.tx.gap = s.tx.gap) (hunit : t.unitAddress = s.unitAddress) (hout : t.linkOut = s.linkOut) :
    Tells P s t :=
  ⟨⟨[], nofun, fun _ => rfl, hreplies.trans (List.append_nil _).symm⟩, hwaiting, hgap, hunit, hout⟩

theorem tells_refl (s : State) : Tells P s s := tells_of_kept rfl id rfl rfl rfl

theorem Tells.trans (h : Tells P s t) (g : Tells P t u) : Tells P s u := by
  obtain ⟨told, hnotices, hsilent, hreplies⟩ := h.replies
  obtain ⟨told', hnotices', hsilent', hreplies'⟩ := g.replies
  refine ⟨⟨told ++ told', fun o ho => ?_, fun hP => by rw [hsilent hP, hsilent' hP]; rfl, ?_⟩,
    fun hw => h.waiting (g.waiting hw), g.gap.trans h.gap, g.unit.trans h.unit, g.linkOut.trans h.linkOut⟩
  · exact (List.mem_append.1 ho).elim (hnotices o) (hnotices' o)
  · rw [hreplies', hreplies, List.append_assoc]

theorem Tells.mono (h : Tells P s t) (hQ : Q → P) : Tells Q s t := by
  obtain ⟨told, hnotices, hsilent, hreplies⟩ := h.replies
  exact ⟨⟨told, hnotices, fun hq => hsilent (hQ hq), hreplies⟩, h.waiting, h.gap, h.unit, h.linkOut⟩

/-- What a step tells at most, and that it tells nothing where it is silent, are proved apart. -/
theorem tells_intro (h : Tells False s t) (hsilent : P → Tells True s t) : Tells P s t := by
  by_cases hP : P
  · exact (hsilent hP).mono fun _ => trivial
  · exact h.mono hP

theorem contestEntry_waiting (h : (contestEntry s).engine = .waiting) : s.engine = .waiting := by
  rcases contestEntry_cases s with ⟨-, hc⟩ | ⟨-, hc | hc⟩ <;> rw [hc] at h
  · exact h
  · exact h
  · cases h

theorem offerNotice_tells (e : Fin 4) (p : List Byte) (s : State) : Tells False s (offerNotice e p s) := by
  have hcontest : Tells False s (contestEntry s) :=
    tells_of_kept (by simp) contestEntry_waiting (by simp) (by simp) (by simp)
  unfold offerNotice
  dsimp only
  split_ifs
  · refine hcontest.trans ⟨⟨[_], fun o ho => ?_, nofun, rfl⟩, id, rfl, rfl, rfl⟩
    rw [List.mem_singleton.1 ho]
    exact ⟨rfl, rfl⟩
  · exact hcontest.trans (tells_of_kept rfl id rfl rfl rfl)
  · exact tells_refl s

theorem reportLockChange_tells (s : State) : Tells s.noControl s (reportLockChange s) := by
  refine tells_intro ?_ fun h => by rw [reportLockChange_of_noControl h]; exact tells_refl s
  unfold reportLockChange
  split
  · exact offerNotice_tells ..
  · exact tells_refl s

theorem offerSessionEnded_of_noControl (p : Byte) (h : s.noControl) : offerSessionEnded p s = s := by
  rw [offerSessionEnded, controlEntry_of_noControl h]

theorem offerSessionEnded_tells (p : Byte) (s : State) : Tells s.noControl s (offerSessionEnded p s) := by
  refine tells_intro ?_ fun h => by rw [offerSessionEnded_of_noControl p h]; exact tells_refl s
  unfold offerSessionEnded
  split
  · exact offerNotice_tells ..
  · exact tells_refl s

/-- A commit stage with nothing pending, or with no issuer, tells nobody (R14, R15). -/
theorem commitStage_tells (advanced : Bool) (s : State) :
    Tells (s.scene.commit.issuer = none ∨ s.scene.commit.pending = false) s (commitStage advanced s) := by
  by_cases hdue : s.scene.commitIsDue
  · rw [commitStage_of_due advanced s hdue]
    have hcommitted : Tells True s { s with scene := s.scene.committed advanced } := tells_of_kept rfl id rfl rfl rfl
    cases hissuer : s.scene.commit.issuer with
    | none => exact hcommitted.mono fun _ => trivial
    | some e =>
      refine ((hcommitted.mono fun _ => trivial).trans (offerNotice_tells ..)).mono ?_
      rintro (hnone | hpending)
      · cases hnone
      · exact absurd (hpending.symm.trans hdue.1) nofun
  · rw [commitStage_of_not_due advanced s hdue]
    exact tells_of_kept rfl id rfl rfl rfl

theorem nextHead_ne_waiting (q : List Packet) : nextHead q ≠ .waiting := by
  unfold nextHead
  split_ifs <;> nofun

theorem expireEntry_waiting (e : Fin 4) (h : (expireEntry e s).engine = .waiting) : s.engine = .waiting := by
  revert h
  simp only [expireEntry, endSession, teardownRequest, setSession_engine]
  cases s.engine <;> dsimp only
  case waiting => exact fun _ => rfl
  case idle => exact nofun
  case testing => exact fun h => absurd h (nextHead_ne_waiting _)
  case reserved =>
    split_ifs
    · exact nofun
    · exact fun h => absurd h (nextHead_ne_waiting _)
  case executing =>
    split_ifs
    · exact fun h => absurd h (nextHead_ne_waiting _)
    · exact nofun

theorem expireEntry_tells (e : Fin 4) (s : State) : Tells P s (expireEntry e s) :=
  tells_of_kept (by simp) (expireEntry_waiting e) (by simp) (by simp) (by simp)

/-! ### Where no notice has a session to go to -/

theorem expireEntry_unheard (e : Fin 4) (h : s.unheard) : (expireEntry e s).unheard := by
  obtain ⟨hno, hissuer⟩ := h
  refine ⟨fun a ha => ?_, ?_⟩
  · by_cases hae : a = e
    · subst hae
      simp [State.session, expireEntry, Session.closed] at ha
    · rw [session_expireEntry_other s hae] at ha ⊢
      exact hno a ha
  · change (if s.scene.commit.issuer = some e then _ else s.scene.commit).issuer = none
    rw [hissuer]
    exact hissuer

theorem commitStage_unheard (advanced : Bool) (h : s.unheard) : (commitStage advanced s).unheard := by
  by_cases hdue : s.scene.commitIsDue
  · rw [commitStage_of_due advanced s hdue, h.2]
    exact ⟨h.1, rfl⟩
  · rw [commitStage_of_not_due advanced s hdue]
    exact h

/-- What a frame start owes only adds notices, and none where none has a session to go to. -/
theorem settleSome_tells (s : State) : Tells s.unheard s (settleSome s) := by
  suffices hboth : Tells s.unheard s (settleSome s) ∧ (s.unheard → (settleSome s).unheard) from hboth.1
  refine settleSome_rule (J := fun u => Tells s.unheard s u ∧ (s.unheard → u.unheard)) ?_ ?_ ?_ ?_ ?_ ?_
    ⟨tells_refl s, id⟩
  · exact fun u ⟨htold, hkept⟩ => ⟨htold.trans (tells_of_kept rfl id rfl rfl rfl), hkept⟩
  · refine fun p u ⟨htold, hkept⟩ =>
      ⟨htold.trans ((offerSessionEnded_tells p u).mono fun h => (hkept h).1), fun h => ?_⟩
    rw [offerSessionEnded_of_noControl p (hkept h).1]
    exact hkept h
  · exact fun l u ⟨htold, hkept⟩ => ⟨htold.trans (tells_of_kept rfl id rfl rfl rfl), hkept⟩
  · exact fun u ⟨htold, hkept⟩ => ⟨htold.trans (tells_of_kept rfl id rfl rfl rfl), hkept⟩
  · exact fun b u ⟨htold, hkept⟩ => ⟨htold.trans ((commitStage_tells b u).mono fun h => .inl (hkept h).2),
      fun h => commitStage_unheard b (hkept h)⟩
  · exact fun _ _ e _ v ⟨htold, hkept⟩ =>
      ⟨htold.trans (expireEntry_tells e v), fun h => expireEntry_unheard e (hkept h)⟩

theorem finishScene_tells (s : State) : Tells (s.scene.commit.pending = false) s (finishScene s) := by
  unfold finishScene
  split
  · exact tells_refl s
  · have hteardown : Tells (s.scene.commit.pending = false) s (teardownStage s) := tells_of_kept rfl id rfl rfl rfl
    exact hteardown.trans ((commitStage_tells _ _).mono .inr)
  · exact (commitStage_tells _ _).mono .inr

/-- With no session to end, a frame start owes the Scene Store's stages alone. -/
theorem settleSome_of_no_ends (hends : s.expiringEntries = []) (hexpired : s.expired = []) :
    Tells (s.scene.commit.pending = false) s (settleSome s) := by
  have hfirst : endsBeforeStore s = s := by
    unfold endsBeforeStore
    split
    · rfl
    · rw [hends]
      rfl
  let v : State := (offerSome [] s).draw.2
  have hv : Tells (s.scene.commit.pending = false) s v := tells_of_kept rfl id rfl rfl rfl
  have hfinished : (finishScene v).expired = [] := by simp [v, offerSome]
  have hnoneOwed : Tells (s.scene.commit.pending = false) (finishScene v) (offerSome [] (finishScene v)) :=
    tells_of_kept rfl id rfl rfl rfl
  unfold settleSome
  dsimp only
  rw [hfirst, hends, hexpired]
  split_ifs
  · exact tells_refl s
  · rw [hfinished]
    exact (hv.trans (finishScene_tells v)).trans hnoneOwed
  · exact hv
  · contradiction

theorem settleSome_tells_of_owesNoNotice (s : State) : Tells s.owesNoNotice s (settleSome s) := by
  refine tells_intro ((settleSome_tells s).mono nofun) ?_
  rintro (hnothing | hunheard | ⟨hpending, hends, hexpired⟩)
  · rw [settleSome_of_nothingOwed hnothing]
    exact tells_refl s
  · exact (settleSome_tells s).mono fun _ => hunheard
  · exact (settleSome_of_no_ends hends hexpired).mono fun _ => hpending

end Tells

end Sys2Proof.Machine

namespace Sys2Proof.Machine

/-! ### What the receiver does at a symbol, and what that tells (R117, R119, R128) -/

section Receives

variable {s u v : State} {sym : Symbol}

/-- Outside LOCKED a symbol moves the receiver alone, but for the FE that locks (R117, R118). -/
theorem receiveSymbol_cases_of_not_locked (sym : Symbol) (hlock : u.rx.lock ≠ .locked) :
    (∃ rx, receiveSymbol sym u = u.withLink rx u.comp u.tx.mode ∧ rx.lock ≠ .locked)
    ∨ (sym = .fe ∧ ∃ rx, receiveSymbol sym u = reportLockChange (u.withLink rx u.comp .compose)) := by
  cases hstate : u.rx.lock with
  | locked => exact absurd hstate hlock
  | init =>
    exact .inl ⟨{ u.rx with gapPackets := 0 }, by simp only [receiveSymbol, hstate]; rfl, hlock⟩
  | search =>
    by_cases hfs : sym = .fs
    · subst hfs
      exact .inl ⟨_, receiveSymbol_search_fs hstate, nofun⟩
    · refine .inl ⟨{ u.rx with gapPackets := 0 }, ?_, hlock⟩
      simp only [receiveSymbol, hstate, searchSymbol, if_neg hfs]
      rfl
  | acquire =>
    rcases ht : u.rx.tracker.symbol sym with ⟨t, _ | a⟩
    · exact .inl ⟨_, receiveSymbol_acquire hstate ht, hlock⟩
    · obtain rfl := symbol_success ht
      exact .inr ⟨rfl, _, receiveSymbol_acquire_locks hstate nofun ht⟩
  | holdover =>
    by_cases hacquired : u.rx.acquired = none
    · exact .inl ⟨_, receiveSymbol_holdover hstate hacquired rfl, hlock⟩
    · exact .inl ⟨_, receiveSymbol_holdover_acquired hstate hacquired, hlock⟩

theorem afterSymbol_ne_drawing {comp : Compositor} (live : Scene) (sym : Symbol) (h : comp.frame ≠ .drawing) :
    (comp.afterSymbol live sym).frame ≠ .drawing := by
  by_cases hfe : sym = .fe
  · subst hfe
    nofun
  · rwa [afterSymbol_of_not_drawing live h hfe]

/-- In LOCKED a symbol moves the receiver and the Compositor, an FS begins a composited frame, or the second damaged
frame of a run unlocks (R118 to R120). -/
theorem receiveSymbol_cases_of_locked (sym : Symbol) (hlock : u.rx.lock = .locked) :
    (sym ≠ .fs ∧ ∃ rx comp, receiveSymbol sym u = u.withLink rx comp u.tx.mode
        ∧ (u.comp.frame ≠ .drawing → comp.frame ≠ .drawing))
    ∨ (sym = .fs ∧ ∃ g rx comp, receiveSymbol sym u = compositedFrameStart g (u.withLink rx comp u.tx.mode))
    ∨ (u.rx.run = true ∧ ∃ rx rx', rx'.lock ≠ .locked ∧ receiveSymbol sym u =
        (reportLockChange (u.withLink rx u.comp.idled .pass)).withLink rx' u.comp.idled .pass) := by
  rcases accepts_or_fault u.rx sym with haccepts | ⟨a, hclean, hg, hfault⟩
  · by_cases hfs : sym = .fs
    · subst hfs
      exact .inr (.inl ⟨rfl, _, _, _, receiveSymbol_fs_accepted hlock haccepts⟩)
    · exact .inl ⟨hfs, _, _, receiveSymbol_accepted hlock haccepts hfs, afterSymbol_ne_drawing _ sym⟩
  · have hfaults : Faults u a sym := ⟨hlock, hg, hclean, hfault⟩
    cases hrun : u.rx.run with
    | false =>
      by_cases hfs : sym = .fs
      · subst hfs
        exact .inr (.inl ⟨rfl, _, _, _, receiveSymbol_damages_fs hfaults hrun⟩)
      · exact .inl ⟨hfs, _, _, receiveSymbol_damages hfaults hrun hfs, fun _ => stopped_afterSymbol_frame _ _⟩
    | true =>
      refine .inr (.inr ⟨rfl, u.rx.unlocking, ?_⟩)
      by_cases hfs : sym = .fs
      · subst hfs
        refine ⟨_, ?_, receiveSymbol_unlocks_fs hfaults hrun⟩
        exact nofun
      · refine ⟨u.rx.unlocking, nofun, (receiveSymbol_unlocks hfaults hrun hfs).trans ?_⟩
        have hkept : Linked u.rx.unlocking u.comp.idled .pass u
            (reportLockChange (u.withLink u.rx.unlocking u.comp.idled .pass)) :=
          Linked.reportLockChange (withLink_linked (rx := u.rx.unlocking) rfl)
        generalize reportLockChange _ = v at hkept ⊢
        rw [State.withLink, ← hkept.rx, ← hkept.comp, ← hkept.mode]

theorem compositedFrameStart_no_ends (g : Option Geometry)
    (h : ∀ e : Fin 4, (v.session e).isOpen = true → (v.session e).idle + 1 ≠ (v.session e).limit) :
    (compositedFrameStart g v).expiringEntries = [] := by
  refine List.filter_eq_nil_iff.2 fun e _ hexpiring => ?_
  rw [compositedFrameStart_session] at hexpiring
  split_ifs at hexpiring with hopen
  · simp only [Session.expiring, Bool.and_eq_true, beq_iff_eq] at hexpiring
    exact h e hopen hexpiring.2
  · simp [Session.expiring, hopen] at hexpiring

theorem compositedFrameStart_unheard (g : Option Geometry) (h : v.unheard) : (compositedFrameStart g v).unheard := by
  refine ⟨fun e he => ?_, h.2⟩
  rw [compositedFrameStart_session] at he ⊢
  split_ifs at he ⊢
  · exact h.1 e he
  · exact h.1 e he

/-- A composited frame start itself tells nobody, and what it leaves owed tells nobody where `startsUntold` says so. -/
theorem compositedFrameStart_tells {P : Prop} (g : Option Geometry) (hexpired : v.expired = [])
    (h : P → v.startsUntold) :
    Tells P v (compositedFrameStart g v) ∧ (P → (compositedFrameStart g v).owesNoNotice) := by
  refine ⟨tells_of_kept rfl id rfl rfl rfl, fun hP => ?_⟩
  rcases h hP with hunheard | ⟨hpending, hlimits⟩
  · exact .inr (.inl (compositedFrameStart_unheard g hunheard))
  · exact .inr (.inr ⟨hpending, compositedFrameStart_no_ends g hlimits, hexpired⟩)

/-- The notices of a symbol: at the FE that locks, the symbol that unlocks, and what its frame start owes (R15, R128,
R156). -/
theorem receiveSymbol_tells (sym : Symbol) (howed : u.nothingOwed) :
    Tells (u.untold sym) u (receiveSymbol sym u) ∧ (u.untold sym → (receiveSymbol sym u).owesNoNotice) := by
  have hmoved (rx : Receiver) (comp : Compositor) (mode : OutputMode) :
      Tells (u.untold sym) u (u.withLink rx comp mode) := tells_of_kept rfl id rfl rfl rfl
  have hreported (rx : Receiver) (comp : Compositor) (mode : OutputMode) (h : u.untold sym → u.noControl) :
      Tells (u.untold sym) u (reportLockChange (u.withLink rx comp mode))
        ∧ (reportLockChange (u.withLink rx comp mode)).nothingOwed :=
    ⟨(hmoved rx comp mode).trans ((reportLockChange_tells _).mono h),
      reportLockChange_untouched.nothingOwed (P := True) trivial howed⟩
  by_cases hlock : u.rx.lock = .locked
  · rcases receiveSymbol_cases_of_locked sym hlock with
      ⟨-, rx, comp, heq, -⟩ | ⟨rfl, g, rx, comp, heq⟩ | ⟨hrun, rx, rx', -, heq⟩ <;> rw [heq]
    · exact ⟨hmoved .., fun _ => .inl howed⟩
    · obtain ⟨htells, howes⟩ := compositedFrameStart_tells (P := u.untold .fs) (v := u.withLink rx comp u.tx.mode) g
        howed.2.2 fun h => by
          rcases h with hunheard | ⟨hne, -⟩ | ⟨-, -, hstarts⟩
          · exact .inl hunheard
          · exact absurd hlock hne
          · exact hstarts.resolve_left (not_not_intro rfl)
      exact ⟨(hmoved ..).trans htells, howes⟩
    · obtain ⟨htells, hnothing⟩ := hreported rx u.comp.idled .pass fun h => by
        rcases h with hunheard | ⟨hne, -⟩ | ⟨-, hclear, -⟩
        · exact hunheard.1
        · exact absurd hlock hne
        · exact absurd (hclear.symm.trans hrun) nofun
      exact ⟨htells.trans (tells_of_kept rfl id rfl rfl rfl), fun _ => .inl hnothing⟩
  · rcases receiveSymbol_cases_of_not_locked sym hlock with ⟨rx, heq, -⟩ | ⟨rfl, rx, heq⟩ <;> rw [heq]
    · exact ⟨hmoved .., fun _ => .inl howed⟩
    · obtain ⟨htells, hnothing⟩ := hreported rx u.comp .compose fun h => by
        rcases h with hunheard | ⟨-, hne⟩ | ⟨hlocked, -⟩
        · exact hunheard.1
        · exact absurd rfl hne
        · exact absurd hlocked hlock
      exact ⟨htells, fun _ => .inl hnothing⟩

/-- The Compositor draws no pixel now (R109, R133). -/
def State.undrawn (s : State) : Prop := s.rx.lock ≠ .locked ∨ s.comp.frame ≠ .drawing

theorem drawnAt_of_undrawn (before : FramePos) (h : s.undrawn) : drawnAt before s = none := by
  rcases h with hlock | hframe
  · unfold drawnAt
    split
    · contradiction
    · rfl
  · exact drawnAt_of_not_drawing before hframe

/-- A pixel starts no drawing and locks nothing (R93, R117). -/
theorem receiveSymbol_px_undrawn (p : RGB) (h : u.undrawn) : (receiveSymbol (.px p) u).undrawn := by
  by_cases hlock : u.rx.lock = .locked
  · rcases receiveSymbol_cases_of_locked (.px p) hlock with
      ⟨-, rx, comp, heq, hkept⟩ | ⟨hfs, -⟩ | ⟨-, rx, rx', hunlocked, heq⟩
    · rw [heq]
      exact .inr (hkept (h.resolve_left (not_not_intro hlock)))
    · cases hfs
    · rw [heq]
      exact .inl hunlocked
  · rcases receiveSymbol_cases_of_not_locked (.px p) hlock with ⟨rx, heq, hunlocked⟩ | ⟨hfe, -⟩
    · rw [heq]
      exact .inl hunlocked
    · cases hfe

@[simp] theorem settleSome_comp (s : State) : (settleSome s).comp = s.comp := by
  refine settleSome_rule (J := fun u => u.comp = s.comp) ?_ ?_ ?_ ?_ ?_ ?_ rfl
  · exact fun _ hu => hu
  · exact fun p u hu => by simp [hu]
  · exact fun _ _ hu => hu
  · exact fun _ hu => hu
  · exact fun b u hu => by simp [hu]
  · exact fun _ _ e _ v hv => by simp [hv]

theorem received_px_undrawn (p : RGB) (h : s.undrawn) : (s.received (.px p)).undrawn := by
  refine orderedClose_rule (J := State.undrawn) (fun u hu _ => receiveSymbol_px_undrawn p ?_) (fun u hu => ?_)
    fun u hu => ?_
  · rwa [State.undrawn, hu.rx, hu.comp]
  · simpa [State.undrawn] using hu
  · simpa [State.undrawn] using hu

end Receives

end Sys2Proof.Machine

namespace Sys2Proof.Machine

/-! ### A row's notices and the close of the gap before its symbol (R134, R135, R137) -/

section Closes

variable {P : Prop} {s t v : State} {act : State → State} {forwarded : List (List Byte)} {out sym : Symbol}

theorem packetsOf_min (s : State) (n : Nat) : s.packetsOf (min n s.replyQueue.length) = s.packetsOf n := by
  rw [State.packetsOf, State.packetsOf, List.take_eq_take_iff.2 (Nat.min_eq_left (Nat.min_le_right ..))]

theorem drop_min_length {α : Type} (l : List α) (n : Nat) : l.drop (min n l.length) = l.drop n := by
  rcases Nat.le_total n l.length with h | h
  · rw [Nat.min_eq_left h]
  · rw [Nat.min_eq_right h, List.drop_length, List.drop_eq_nil_of_le h]

theorem engineBehind_ne_waiting (hq : s.replyQueue ≠ []) (hn : 0 < n) : s.engineBehind n ≠ .waiting := by
  unfold State.engineBehind
  split_ifs with h
  · nofun
  · exact fun hw => h ⟨hw, hq, hn⟩

/-- A blanking gap closes behind the symbol's other effects, or before them (R137). -/
theorem orderedClose_of_blanking (act : State → State) (h : s.tx.gap = some ⟨.blanking, forwarded⟩) :
    orderedClose act s = closeGap (settleSome (act s.draw.2)) ∨ orderedClose act s = act (closeGap s.draw.2) := by
  simp only [orderedClose, h, if_true]
  split_ifs
  · exact .inl rfl
  · exact .inr rfl

theorem blanking_or_not (s : State) :
    (∃ f, s.tx.gap = some ⟨.blanking, f⟩) ∨ ∀ p, s.tx.gap = some p → p.kind ≠ .blanking := by
  by_cases h : ∃ f, s.tx.gap = some ⟨.blanking, f⟩
  · exact .inl h
  · exact .inr fun p hp hkind => h ⟨p.forwarded, by rw [hp, ← hkind]⟩

theorem closeGap_of_not_blanking (h : ∀ p, s.tx.gap = some p → p.kind ≠ .blanking) :
    closeGap s = { s with tx := { s.tx with gap := none } } := by
  have hroom : s.room = 0 := by
    unfold State.room
    split
    · next p hp => exact if_neg (h p hp)
    · rfl
  rw [closeGap_eq, hroom, State.sent, packetsOf_zero, engineBehind_zero, List.append_nil]
  rfl

/-- The close behind the notices takes from the queue that they have joined. -/
theorem closesBefore_of_told_first (hgap : s.tx.gap = some ⟨.blanking, forwarded⟩) (htells : Tells P s v)
    (hquiet : s.linkOut = []) (hout : t.linkOut = (closeGap v).linkOut ++ [out])
    (hreplies : t.replyQueue = (closeGap v).replyQueue) (hengine : t.engine = (closeGap v).engine) :
    closesBefore s t out P := by
  obtain ⟨told, hnotices, hsilent, hjoined⟩ := htells.replies
  refine ⟨told, hnotices, hsilent, fun f hf => ?_, fun hnot => absurd rfl (hnot _ hgap)⟩
  obtain rfl : forwarded = f := by
    rw [hgap] at hf
    cases hf
    rfl
  have hroom : v.room = 3 - forwarded.length := by simp [State.room, htells.gap, hgap]
  rw [closeGap_eq, hroom] at hout hreplies hengine
  refine ⟨⟨min (3 - forwarded.length) (s.replyQueue ++ told).length, ?_, le_rfl, ?_, ?_⟩, fun hq hn => ?_⟩
  · exact min_le_min le_rfl (by simp)
  · rw [hout, State.sent, htells.linkOut, hquiet, ← packetsOf_min v, hjoined,
      packetsOf_congr (s := { s with replyQueue := s.replyQueue ++ told }) hjoined htells.unit]
    rfl
  · rw [hreplies, drop_min_length, ← hjoined]
    rfl
  · rw [hengine]
    exact engineBehind_ne_waiting (by simp [hjoined, hq]) hn

/-- The close before the notices takes from the queue as it stood; they join behind what it leaves. -/
theorem closesBefore_of_closed_first (hgap : s.tx.gap = some ⟨.blanking, forwarded⟩) (htells : Tells P (closeGap s) v)
    (hquiet : s.linkOut = []) (hout : t.linkOut = v.linkOut ++ [out]) (hreplies : t.replyQueue = v.replyQueue)
    (hengine : t.engine = v.engine) : closesBefore s t out P := by
  obtain ⟨told, hnotices, hsilent, hjoined⟩ := htells.replies
  refine ⟨told, hnotices, hsilent, fun f hf => ?_, fun hnot => absurd rfl (hnot _ hgap)⟩
  obtain rfl : forwarded = f := by
    rw [hgap] at hf
    cases hf
    rfl
  have hroom : s.room = 3 - forwarded.length := by simp [State.room, hgap]
  have hwithin : min (3 - forwarded.length) s.replyQueue.length ≤ s.replyQueue.length := Nat.min_le_right ..
  have hlinkOut := htells.linkOut
  have hwaiting := htells.waiting
  rw [closeGap_eq, hroom] at hjoined hlinkOut hwaiting
  refine ⟨⟨min (3 - forwarded.length) s.replyQueue.length, le_rfl, min_le_min le_rfl (by simp), ?_, ?_⟩,
    fun hq hn hw => ?_⟩
  · have hsame : State.packetsOf { s with replyQueue := s.replyQueue ++ told }
        (min (3 - forwarded.length) s.replyQueue.length) = s.packetsOf (3 - forwarded.length) := by
      rw [← packetsOf_min s, State.packetsOf, State.packetsOf, List.take_append_of_le_length hwithin]
    rw [hout, hlinkOut, hsame, State.sent, hquiet]
    rfl
  · rw [hreplies, hjoined, List.drop_append_of_le_length hwithin, drop_min_length]
    rfl
  · exact engineBehind_ne_waiting hq hn (hwaiting (hengine ▸ hw))

/-- A gap that is not blanking, or none, takes nothing. -/
theorem closesBefore_of_not_blanking (hgap : ∀ p, s.tx.gap = some p → p.kind ≠ .blanking)
    (htells : Tells P { s with tx := { s.tx with gap := none } } v) (hquiet : s.linkOut = [])
    (hout : t.linkOut = v.linkOut ++ [out]) (hreplies : t.replyQueue = v.replyQueue) : closesBefore s t out P := by
  obtain ⟨told, hnotices, hsilent, hjoined⟩ := htells.replies
  refine ⟨told, hnotices, hsilent, fun f hf => absurd rfl (hgap _ hf), fun _ => ⟨?_, hreplies.trans hjoined⟩⟩
  rw [hout, htells.linkOut]
  simp [hquiet]

/-- A row that closes the gap in hand before its symbol, in either order with what the symbol does (R135, R137). -/
theorem orderedClose_closesBefore (hquiet : s.linkOut = [])
    (hact : ∀ u, Linked s.rx s.comp s.tx.mode s u → u.sessions = s.sessions →
      Tells P u (act u) ∧ (P → (act u).owesNoNotice))
    (hout : t.linkOut = (orderedClose act s).linkOut ++ [out])
    (hreplies : t.replyQueue = (orderedClose act s).replyQueue)
    (hengine : t.engine = (orderedClose act s).engine) : closesBefore s t out P := by
  have hdrawn : Linked s.rx s.comp s.tx.mode s s.draw.2 := ⟨untouched_link, rfl, rfl, rfl, rfl, rfl⟩
  have hclosed : Linked s.rx s.comp s.tx.mode s { s with tx := { s.tx with gap := none } } :=
    ⟨untouched_link, rfl, rfl, rfl, rfl, rfl⟩
  rcases blanking_or_not s with ⟨forwarded, hgap⟩ | hgap
  · rcases orderedClose_of_blanking act hgap with heq | heq <;> rw [heq] at hout hreplies hengine
    · obtain ⟨htells, howes⟩ := hact s.draw.2 hdrawn rfl
      exact closesBefore_of_told_first (s := s.draw.2) hgap
        (htells.trans ((settleSome_tells_of_owesNoNotice _).mono howes)) hquiet hout hreplies hengine
    · obtain ⟨htells, -⟩ := hact (closeGap s.draw.2) hdrawn.closeGap (by simp)
      exact closesBefore_of_closed_first (s := s.draw.2) hgap htells hquiet hout hreplies hengine
  · rw [orderedClose_of_not_blanking hgap] at hout hreplies
    exact closesBefore_of_not_blanking hgap (hact _ hclosed rfl).1 hquiet hout hreplies

/-- A row that only closes the gap in hand before its symbol. -/
theorem closeGap_closesBefore (hquiet : s.linkOut = []) (hout : t.linkOut = (closeGap s).linkOut ++ [out])
    (hreplies : t.replyQueue = (closeGap s).replyQueue) (hengine : t.engine = (closeGap s).engine) :
    closesBefore s t out P := by
  rcases blanking_or_not s with ⟨forwarded, hgap⟩ | hgap
  · exact closesBefore_of_closed_first hgap (tells_refl _) hquiet hout hreplies hengine
  · rw [closeGap_of_not_blanking hgap] at hout hreplies
    exact closesBefore_of_not_blanking hgap (tells_refl _) hquiet hout hreplies

@[simp] theorem composePixel_link (x y : Nat) (original : RGB) (s : State) :
    (composePixel x y original s).2.linkOut = s.linkOut ∧ (composePixel x y original s).2.replyQueue = s.replyQueue
    ∧ (composePixel x y original s).2.engine = s.engine := by
  simp [composePixel]

/-- Each generated symbol is output behind the close of the gap before it (R135, R139). -/
theorem generateSymbol_outputs {pos : GenPos} (g : Geometry) (period : Nat) (s : State) (hstart : pos ≠ .start)
    (hended : pos ≠ .ended) : ∃ out,
    (generateSymbol g pos period s.quiet).linkOut = (closeGap s.quiet).linkOut ++ [out]
    ∧ (generateSymbol g pos period s.quiet).replyQueue = (closeGap s.quiet).replyQueue
    ∧ (generateSymbol g pos period s.quiet).engine = (closeGap s.quiet).engine := by
  cases pos with
  | start => exact absurd rfl hstart
  | ended => exact absurd rfl hended
  | line k =>
    rw [generateSymbol_line]
    exact ⟨.ls k, by simp, by simp, by simp⟩
  | pixel k x =>
    simp only [generateSymbol, setGenerator_linkOut, setGenerator_replyQueue, setGenerator_engine]
    generalize closeGap s.quiet = v
    by_cases hframe : v.comp.frame = .drawing
    · simp only [generatedPixel, if_pos hframe]
      exact ⟨_, (putSymbol_linkOut _ _).trans (by rw [(composePixel_link ..).1]), by simp, by simp⟩
    · simp only [generatedPixel, if_neg hframe]
      exact ⟨_, putSymbol_linkOut _ _, by simp, by simp⟩
  | lineEnd k => exact ⟨.le, by simp [generateSymbol], by simp [generateSymbol], by simp [generateSymbol]⟩
  | frameEnd =>
    exact ⟨.fe, by simp [generateSymbol, idleCompositor], by simp [generateSymbol, idleCompositor],
      by simp [generateSymbol, idleCompositor]⟩

/-- What a symbol is output as: itself, but for a pixel that the Compositor draws (R132, R133). -/
theorem passSymbol_outputs (before : FramePos) (sym : Symbol) (v : State) : ∃ out,
    (passSymbol before sym v).linkOut = v.linkOut ++ [out] ∧ (passSymbol before sym v).replyQueue = v.replyQueue
    ∧ (passSymbol before sym v).engine = v.engine ∧ (v.undrawn ∨ (∀ p, sym ≠ .px p) → out = sym)
    ∧ ∀ p, sym = .px p → ∃ q, out = .px q := by
  have hput (h : passSymbol before sym v = putSymbol sym v) : (passSymbol before sym v).linkOut = v.linkOut ++ [sym]
      ∧ (passSymbol before sym v).replyQueue = v.replyQueue ∧ (passSymbol before sym v).engine = v.engine := by
    rw [h]
    exact ⟨by simp, by simp, by simp⟩
  by_cases hpx : ∃ p, sym = .px p
  · obtain ⟨p, rfl⟩ := hpx
    cases hdrawn : drawnAt before v with
    | none =>
      obtain ⟨hout, hreplies, hengine⟩ := hput (by simp only [passSymbol, hdrawn])
      exact ⟨_, hout, hreplies, hengine, fun _ => rfl, fun _ _ => ⟨p, rfl⟩⟩
    | some xy =>
      have hcomposed : passSymbol before (.px p) v =
          putSymbol (.px (composePixel xy.1 xy.2 p v).1) (composePixel xy.1 xy.2 p v).2 := by
        simp only [passSymbol, hdrawn]
      have hdrawing : ¬ v.undrawn := fun h => by
        rw [drawnAt_of_undrawn before h] at hdrawn
        cases hdrawn
      rw [hcomposed]
      exact ⟨_, (putSymbol_linkOut _ _).trans (by rw [(composePixel_link ..).1]), by simp, by simp,
        fun h => absurd rfl (h.resolve_left hdrawing p), fun _ _ => ⟨_, rfl⟩⟩
  · have hsame : passSymbol before sym v = putSymbol sym v := by
      cases sym
      case px p => exact absurd ⟨p, rfl⟩ hpx
      all_goals rfl
    obtain ⟨hout, hreplies, hengine⟩ := hput hsame
    exact ⟨_, hout, hreplies, hengine, fun _ => rfl, fun p hp => absurd ⟨p, hp⟩ hpx⟩

/-- What a symbol tells depends on the receiver, the Scene Store and the sessions alone. -/
theorem untold_congr (hrx : v.rx = s.rx) (hscene : v.scene = s.scene) (hsessions : v.sessions = s.sessions)
    (h : s.untold sym) : v.untold sym := by
  simp only [State.untold, State.startsUntold, State.noControl, hrx, hscene, session_congr v s hsessions]
  exact h

theorem startsUntold_congr (hscene : v.scene = s.scene) (hsessions : v.sessions = s.sessions)
    (h : s.startsUntold) : v.startsUntold := by
  simp only [State.startsUntold, State.noControl, hscene, session_congr v s hsessions]
  exact h

/-! ### An LS in SEARCH (R132, R135) -/

theorem receiveSymbol_search_ls (n : Nat) (hlock : v.rx.lock = .search) :
    receiveSymbol (.ls n) v = v.withLink { v.rx with gapPackets := 0 } v.comp v.tx.mode := by
  simp only [receiveSymbol, hlock]
  rfl

/-- The row of an LS in SEARCH behind a blanking gap: only the number of free choices drawn is left open. -/
theorem received_search_ls (n : Nat) (hs : s.settled) (hlock : s.rx.lock = .search)
    (hgap : s.tx.gap = some ⟨.blanking, forwarded⟩) :
    s.received (.ls n) = (s.quiet.draw.2.sent s.room).withLink { s.rx with gapPackets := 0 } s.comp s.tx.mode := by
  have howed : s.quiet.nothingOwed := nothingOwed_of_settled (settled_quiet s hs)
  rcases orderedClose_of_blanking (s := s.quiet) (receiveSymbol (.ls n)) hgap with heq | heq <;>
    rw [State.received, heq]
  · rw [receiveSymbol_search_ls (v := s.quiet.draw.2) n hlock, settleSome_of_nothingOwed (by exact howed), closeGap_eq]
    rfl
  · rw [closeGap_eq, receiveSymbol_search_ls (v := s.quiet.draw.2.sent _) n hlock]
    rfl

end Closes

/-- Settles O17. -/
theorem blankingGapTakesReplies : Obligations.BlankingGapTakesReplies := by
  refine ⟨fun s n hs hlock hmode => ⟨fun forwarded hgap => ?blanking, fun hgap => ?other⟩,
    fun s c sym hc hs hmode => ?symbol,
    fun s g pos period hs hgen => ⟨fun hstart hended => ?generated, fun hpos => ?start⟩⟩
  case blanking =>
    have hroom : s.room = 3 - forwarded.length := by simp [State.room, hgap]
    have hrow := exec_passes (c := .lineStart n) (sym := .ls n) rfl hs (.inl hmode) nofun
    rw [received_search_ls n hs hlock hgap, hroom] at hrow
    refine ⟨_, hrow, ?_⟩
    simp only [putSymbol_frame, putSymbol_linkOut]
    refine ⟨rfl, rfl, rfl, fun hq hn hw => ?_, fun hkept => ?_, rfl, rfl, rfl, rfl, rfl⟩
    · exact if_pos ⟨hw, hq, Nat.sub_pos_of_lt hn⟩
    · refine if_neg fun ⟨hw, hq, hn⟩ => ?_
      rcases hkept with hempty | hfull | hawake
      · exact hq hempty
      · exact absurd (Nat.lt_of_sub_pos hn) (Nat.not_lt.2 hfull)
      · exact hawake hw
  case other =>
    rw [exec_passes (c := .lineStart n) (sym := .ls n) rfl hs (.inl hmode) nofun, received_of_not_blanking hgap,
      receiveSymbol_search_ls (v := s.ungapped) n hlock]
    rfl
  case symbol =>
    obtain ⟨out, hout, hreplies, hengine, hsame, hpx⟩ := passSymbol_outputs s.rx.frame.pos sym (s.received sym)
    have hrow := (exec_of_symbolOf hc s).trans (congrArg _ (inputSymbol_output sym hs hmode))
    refine ⟨_, out, hrow, fun hplain => ?_, hpx, ?_⟩
    · refine hsame ?_
      by_cases hpixel : ∃ p, sym = .px p
      · obtain ⟨p, rfl⟩ := hpixel
        exact .inl (received_px_undrawn p (hplain.imp_right fun h => h.resolve_right fun hnot => hnot p rfl))
      · exact .inr fun p hp => hpixel ⟨p, hp⟩
    · refine orderedClose_closesBefore (s := s.quiet) rfl (fun u hu hsessions => ?_) hout hreplies hengine
      have howed : u.nothingOwed := hu.nothingOwed trivial (nothingOwed_of_settled (settled_quiet s hs))
      have huntold : s.untold sym → u.untold sym := untold_congr hu.rx (hu.scene trivial) hsessions
      obtain ⟨htells, howes⟩ := receiveSymbol_tells sym howed
      exact ⟨htells.mono huntold, fun h => howes (huntold h)⟩
  case generated =>
    obtain ⟨out, hout, hreplies, hengine⟩ := generateSymbol_outputs g period s hstart hended
    exact ⟨_, out, exec_generatedSymbol hs hgen, closeGap_closesBefore (s := s.quiet) rfl hout hreplies hengine⟩
  case start =>
    refine ⟨_, exec_generatedFrameStart hs hgen hpos, ?_⟩
    refine orderedClose_closesBefore (s := s.beginning g) (act := compositedFrameStart (some g)) rfl
      (fun u hu hsessions => ?_) (by simp) (by simp) (by simp)
    obtain ⟨-, -, hexpired, -⟩ := hs
    exact compositedFrameStart_tells (some g) ((hu.expired trivial).trans hexpired)
      (startsUntold_congr (hu.scene trivial) hsessions)

end Sys2Proof.Machine

namespace Sys2Proof.Machine

/-! ### The end of a session (R157, R17) -/

theorem ownedBy_iff (sc : Scene) (e : Fin 4) (k : Fin 8) :
    sc.ownedBy e k = true ↔ ∃ r, sc.windows[k] = some r ∧ r.owner = e := by
  unfold Scene.ownedBy
  cases sc.windows[k] <;> simp

theorem mem_allSlots (k : Fin 8) : k ∈ allSlots := by
  rw [allSlots_eq]
  exact List.mem_finRange k

section SessionEnd

variable (e : Fin 4) (s : State)

@[simp] theorem endSession_session_same : (endSession e s).session e = Session.closed := by
  simp [State.session]

theorem endSession_session_other {e a : Fin 4} (h : a ≠ e) : (endSession e s).session a = s.session a :=
  session_expireEntry_other s h

@[simp] theorem endSession_commandQueue :
    (endSession e s).commandQueue = s.commandQueue.filter fun p => decide (p.session ≠ some e) := rfl

@[simp] theorem endSession_stage : (endSession e s).scene.stage = s.scene.stage := rfl

@[simp] theorem endSession_live : (endSession e s).scene.live = s.scene.live := rfl

/-- R17: the commit issuer is cleared where it names the entry. -/
theorem endSession_issuer : (endSession e s).scene.commit.issuer =
    if s.scene.commit.issuer = some e then none else s.scene.commit.issuer := by
  change (if s.scene.commit.issuer = some e then _ else s.scene.commit).issuer = _
  split_ifs <;> rfl

/-- R17: the staged slots that the entry holds are released. -/
theorem endSession_staged : (endSession e s).scene.staged =
    (allSlots.filter (s.scene.staged.ownedBy e)).foldl Scene.release s.scene.staged := rfl

theorem endSession_staged_window (k : Fin 8) (r : WindowRecord) :
    (endSession e s).scene.staged.windows[k] = some r
      ↔ s.scene.staged.windows[k] = some r ∧ r.owner ≠ e := by
  have hfreed : k ∈ allSlots.filter (s.scene.staged.ownedBy e)
      ↔ ∃ w, s.scene.staged.windows[k] = some w ∧ w.owner = e := by
    rw [List.mem_filter, ownedBy_iff, and_iff_right (mem_allSlots k)]
  rw [endSession_staged, foldl_release_window]
  split_ifs with h
  · obtain ⟨w, hw, rfl⟩ := hfreed.1 h
    refine ⟨nofun, fun ⟨hr, hne⟩ => absurd ?_ hne⟩
    rw [Option.some.inj (hr.symm.trans hw)]
  · exact ⟨fun hr => ⟨hr, fun ho => h (hfreed.2 ⟨r, hr, ho⟩)⟩, And.left⟩

/-- The Order keeps the slots that another entry holds, and those that nobody does. -/
theorem endSession_staged_order : (endSession e s).scene.staged.order = s.scene.staged.order.filter
    fun k => match s.scene.staged.windows[k] with
      | some r => decide (r.owner ≠ e)
      | none => true := by
  rw [endSession_staged, foldl_release_eq]
  refine List.filter_congr fun k _ => ?_
  have howned := ownedBy_iff s.scene.staged e k
  cases hw : s.scene.staged.windows[k] <;> simp [mem_allSlots, howned, hw]

/-- R17: the live slots that the entry holds are listed for teardown. -/
theorem mem_endSession_teardown (k : Fin 8) : k ∈ (endSession e s).scene.teardown
    ↔ k ∈ s.scene.teardown ∨ ∃ r, s.scene.live.windows[k] = some r ∧ r.owner = e := by
  change k ∈ allSlots.filter (fun k => s.scene.teardown.contains k || s.scene.live.ownedBy e k) ↔ _
  simp [mem_allSlots, ownedBy_iff]

/-- R157, R161: a packet of the session in execution stops, and the engine tests the head anew where the end has changed it. -/
theorem endSession_engine : (endSession e s).engine =
    match s.engine with
    | .idle => .idle
    | .testing => nextHead (endSession e s).commandQueue
    | .executing x => if x.packet.session = some e then nextHead (endSession e s).commandQueue else s.engine
    | held => if (endSession e s).commandQueue.head? = s.commandQueue.head? then held
        else nextHead (endSession e s).commandQueue := by
  simp only [endSession, teardownRequest, setSession_engine]
  cases s.engine <;> rfl

/-- R157, R17: the end of a session writes the Session Table, the Command Queue, the engine, and, of the Scene Store, the
Window Table and the Order of staging, the teardown list and the issuer. -/
theorem endSession_eq : endSession e s = { s with
    sessions := (endSession e s).sessions
    commandQueue := (endSession e s).commandQueue
    engine := (endSession e s).engine
    scene := { s.scene with
      staged := { s.scene.staged with
        windows := (endSession e s).scene.staged.windows, order := (endSession e s).scene.staged.order }
      teardown := (endSession e s).scene.teardown
      commit := { s.scene.commit with issuer := (endSession e s).scene.commit.issuer } } } := by
  have hstaged : (endSession e s).scene.staged = { s.scene.staged with
      windows := (endSession e s).scene.staged.windows, order := (endSession e s).scene.staged.order } := by
    rw [endSession_staged, foldl_release_eq]
  have hcommit : (endSession e s).scene.commit =
      { s.scene.commit with issuer := (endSession e s).scene.commit.issuer } := by
    rw [endSession_issuer]
    change (if s.scene.commit.issuer = some e then _ else s.scene.commit) = _
    split_ifs <;> rfl
  rw [← hstaged, ← hcommit]
  rfl

end SessionEnd

/-- Settles O23: part by part, from what `endSession` does to the table, the engine and the scene. -/
theorem sessionEndClosesAndTearsDown : Obligations.SessionEndClosesAndTearsDown := by
  intro e s t
  have hengine := endSession_engine e s
  refine ⟨?_, endSession_session_same e s, fun a ha => endSession_session_other s ha, rfl,
    fun x hx hother => ?_, fun x hx hown => ?_, fun hidle => ?_, fun htesting => ?_, fun hheld => ?_,
    endSession_staged_window e s, endSession_staged_order e s, mem_endSession_teardown e s⟩
  · rw [← endSession_issuer]
    exact endSession_eq e s
  · rw [hengine, hx]
    exact if_neg hother
  · rw [hengine, hx, ← nextHead_eq]
    exact if_pos hown
  · rw [hengine, hidle]
  · rw [hengine, htesting, ← nextHead_eq]
  · rw [hengine, ← nextHead_eq]
    rcases hheld with hheld | hheld <;> rw [hheld]

end Sys2Proof.Machine

namespace Sys2Proof.Machine

/-! ### Looking up the Session Table (R143, R145, R148) -/

section LookUp

variable {s : State} {e : Fin 4} {source : Byte}

theorem allEntries_eq : allEntries = List.finRange 4 := by decide

theorem mem_allEntries (e : Fin 4) : e ∈ allEntries := by
  rw [allEntries_eq]
  exact List.mem_finRange e

theorem find_allEntries_eq_none {p : Fin 4 → Bool} : allEntries.find? p = none ↔ ∀ a, p a = false := by
  simp [List.find?_eq_none, mem_allEntries]

/-- A search of the table answers its one match. -/
theorem find_allEntries_of_unique {p : Fin 4 → Bool} (he : p e = true) (hunique : ∀ a, p a = true → a = e) :
    allEntries.find? p = some e := by
  cases h : allEntries.find? p with
  | none => exact absurd (he.symm.trans (find_allEntries_eq_none.1 h e)) nofun
  | some a => rw [hunique a (List.find?_some h)]

/-- A search of the table answers its lowest match. -/
theorem find_allEntries_of_lowest {p : Fin 4 → Bool} (he : p e = true) (hlow : ∀ a, a < e → p a = false) :
    allEntries.find? p = some e := by
  rw [allEntries_eq, List.find?_eq_some_iff_getElem]
  refine ⟨he, e.1, by simp, by simp, fun a ha => ?_⟩
  simpa using hlow ⟨a, ha.trans e.2⟩ ha

theorem entryOf_eq_none : s.entryOf source = none ↔ s.stranger source := by
  simp [State.entryOf, mem_allEntries]

theorem entryOf_eq_some (h : s.entryOf source = some e) : (s.session e).isOpen = true ∧ (s.session e).peer = source := by
  simpa using List.find?_some h

theorem entryOf_of_holds (h : s.holds source e) : s.entryOf source = some e := by
  obtain ⟨hopen, hpeer, hunique⟩ := h
  refine find_allEntries_of_unique (by simp [hopen, hpeer]) fun a ha => ?_
  simp only [Bool.and_eq_true, beq_iff_eq] at ha
  exact hunique a ha.1 ha.2

theorem controlEntry_eq_none : s.controlEntry = none ↔ s.noControl := by
  simp [State.controlEntry, mem_allEntries]

theorem lowestClosed_eq_some (h : s.lowestClosed = some e) : (s.session e).isOpen = false := by
  simpa using List.find?_some h

theorem lowestClosed_of_lowest (hclosed : (s.session e).isOpen = false)
    (hlow : ∀ a, a < e → (s.session a).isOpen = true) : s.lowestClosed = some e :=
  find_allEntries_of_lowest (by simp [hclosed]) fun a ha => by simp [hlow a ha]

/-- Only one entry is OPEN for a peer (R143). -/
theorem holds_of_entryOf (hpeers : ∀ a b : Fin 4, (s.session a).isOpen = true → (s.session b).isOpen = true →
    (s.session a).peer = (s.session b).peer → a = b) (h : s.entryOf source = some e) : s.holds source e := by
  obtain ⟨hopen, hpeer⟩ := entryOf_eq_some h
  exact ⟨hopen, hpeer, fun a ha hpa => hpeers a e ha hopen (hpa.trans hpeer.symm)⟩

/-- With its session ended, the peer has none (R148). -/
theorem endSession_stranger (h : s.holds source e) : (endSession e s).stranger source := by
  intro a ha
  by_cases hae : a = e
  · subst hae
    rw [endSession_session_same] at ha
    cases ha
  · rw [endSession_session_other s hae] at ha ⊢
    exact fun hpeer => hae (h.2.2 a ha hpeer)

end LookUp

end Sys2Proof.Machine

namespace Sys2Proof.Machine

/-! ### The Session Table's law, and the entries that the part names (R143, R144, R17) -/

/-- R143, R144, R17 together. -/
def TableLaw (s : State) : Prop := SessionLaw s ∧ OwnerLaw s

/-- From `v` to `w` an entry keeps its state, its peer and its role, and stands as it did if it is CLOSED. -/
structure Session.SameHolder (v w : Session) : Prop where
  isOpen : w.isOpen = v.isOpen
  peer : w.peer = v.peer
  role : w.role = v.role
  closed : v.isOpen = false → w = v

/-- The entry of the session packet in execution. -/
def Engine.entry : Engine → Option (Fin 4)
  | .executing x => x.packet.session
  | _ => none

/-- The entries that the part names outside the Session Table: the owners of staged windows and of live windows not awaiting
teardown, the commit issuer, and the sessions of queued and executing packets (R17). -/
inductive State.Names (s : State) : Fin 4 → Prop where
  | staged {k : Fin 8} {r : WindowRecord} (h : s.scene.staged.windows[k] = some r) : s.Names r.owner
  | live {k : Fin 8} {r : WindowRecord} (h : s.scene.live.windows[k] = some r) (hk : k ∉ s.scene.teardown) :
    s.Names r.owner
  | issuer {e : Fin 4} (h : s.scene.commit.issuer = some e) : s.Names e
  | queued {p : Packet} {e : Fin 4} (h : p ∈ s.commandQueue) (he : p.session = some e) : s.Names e
  | executing {e : Fin 4} (h : s.engine.entry = some e) : s.Names e

theorem Engine.entry_eq_some {n : Engine} {e : Fin 4} :
    n.entry = some e ↔ ∃ x, n = .executing x ∧ x.packet.session = some e := by
  cases n <;> simp [Engine.entry]

@[simp] theorem nextHead_entry (q : List Packet) : (nextHead q).entry = none := by
  unfold nextHead
  split_ifs <;> rfl

/-- R17: every entry named is OPEN. -/
theorem ownerLaw_iff (s : State) : OwnerLaw s ↔ ∀ e, s.Names e → (s.session e).isOpen = true := by
  constructor
  · rintro ⟨hstaged, hlive, hissuer, hqueued, hexecuting⟩ e (⟨h⟩ | ⟨h, hk⟩ | h | ⟨h, he⟩ | h)
    · exact hstaged _ _ h
    · exact (hlive _ _ h).resolve_left hk
    · exact hissuer e h
    · exact hqueued _ h e he
    · obtain ⟨x, hx, he⟩ := Engine.entry_eq_some.1 h
      exact hexecuting x hx e he
  · intro h
    refine ⟨fun k r hr => h _ (.staged hr), fun k r hr => ?_, fun e he => h e (.issuer he),
      fun p hp e he => h e (.queued hp he), fun x hx e he => h e (.executing (Engine.entry_eq_some.2 ⟨x, hx, he⟩))⟩
    exact or_iff_not_imp_left.2 fun hk => h _ (.live hr hk)

section SameHolder

variable {v w x : Session}

theorem Session.SameHolder.refl (v : Session) : v.SameHolder v := ⟨rfl, rfl, rfl, fun _ => rfl⟩

theorem Session.SameHolder.trans (h : v.SameHolder w) (g : w.SameHolder x) : v.SameHolder x :=
  ⟨g.isOpen.trans h.isOpen, g.peer.trans h.peer, g.role.trans h.role,
    fun hv => (g.closed (h.isOpen.trans hv)).trans (h.closed hv)⟩

/-- Of an OPEN entry everything but the state, the peer and the role may change. -/
theorem Session.sameHolder_of_open (hopen : v.isOpen = true) (hw : w.isOpen = v.isOpen := by rfl)
    (hpeer : w.peer = v.peer := by rfl) (hrole : w.role = v.role := by rfl) : v.SameHolder w :=
  ⟨hw, hpeer, hrole, fun hclosed => absurd (hclosed.symm.trans hopen) nofun⟩

end SameHolder

/-- The law of the Session Table speaks of the holders alone. -/
theorem sessionLaw_of_sameHolders {s t : State} (h : ∀ a, (s.session a).SameHolder (t.session a)) (hs : SessionLaw s) :
    SessionLaw t := by
  have hopen (a : Fin 4) : (t.session a).isOpen = (s.session a).isOpen := (h a).isOpen
  have hpeer (a : Fin 4) : (t.session a).peer = (s.session a).peer := (h a).peer
  have hrole (a : Fin 4) : (t.session a).role = (s.session a).role := (h a).role
  have hcount : t.clientCount = s.clientCount := by simp only [State.clientCount, hopen, hrole]
  obtain ⟨hpeers, hcontrol, hclients, hclosed⟩ := hs
  refine ⟨fun a b => ?_, fun a b => ?_, hcount.trans_le hclients, fun a ha => ?_⟩
  · rw [hopen, hopen, hpeer, hpeer]
    exact hpeers a b
  · rw [hopen, hopen, hrole, hrole]
    exact hcontrol a b
  · rw [hopen] at ha
    exact ((h a).closed ha).trans (hclosed a ha)

/-! ### Operations that change no holder and name no CLOSED entry -/

/-- Between `s` and `t` every entry keeps its holder, and the part names no other entry but an OPEN one. -/
structure HoldersKept (s t : State) : Prop where
  sessions : ∀ a, (s.session a).SameHolder (t.session a)
  names : ∀ e, t.Names e → s.Names e ∨ (s.session e).isOpen = true

theorem HoldersKept.law {s t : State} (g : HoldersKept s t) (h : TableLaw s) : TableLaw t := by
  obtain ⟨hsessions, howners⟩ := h
  rw [ownerLaw_iff] at howners
  refine ⟨sessionLaw_of_sameHolders g.sessions hsessions, (ownerLaw_iff t).2 fun e he => ?_⟩
  rw [(g.sessions e).isOpen]
  exact (g.names e he).elim (howners e) id

section HoldersKept

variable {s t u : State} {e : Fin 4}

theorem HoldersKept.trans (h : HoldersKept s t) (g : HoldersKept t u) : HoldersKept s u where
  sessions a := (h.sessions a).trans (g.sessions a)
  names e he := by
    rcases g.names e he with hnamed | hopen
    · exact h.names e hnamed
    · exact .inr ((h.sessions e).isOpen ▸ hopen)

/-- `HoldersKept.trans` with the last operation named first. -/
theorem HoldersKept.after (g : HoldersKept t u) (h : HoldersKept s t) : HoldersKept s u := h.trans g

/-- Where the scenes, the queue and the packet in execution stand, the names do. -/
theorem HoldersKept.of_sessions (h : ∀ a, (s.session a).SameHolder (t.session a)) (hscene : t.scene = s.scene)
    (hqueue : t.commandQueue = s.commandQueue) (hengine : ∀ e, t.engine.entry = some e → s.engine.entry = some e) :
    HoldersKept s t := by
  refine ⟨h, ?_⟩
  rintro _ (hr | ⟨hr, hk⟩ | hissuer | ⟨hp, he⟩ | hx)
  · exact .inl (.staged (hscene ▸ hr))
  · exact .inl (.live (hscene ▸ hr) (hscene ▸ hk))
  · exact .inl (.issuer (hscene ▸ hissuer))
  · exact .inl (.queued (hqueue ▸ hp) he)
  · exact .inl (.executing (hengine _ hx))

theorem HoldersKept.of_frame (hsessions : t.sessions = s.sessions := by rfl) (hscene : t.scene = s.scene := by rfl)
    (hqueue : t.commandQueue = s.commandQueue := by rfl) (hengine : t.engine.entry = s.engine.entry := by rfl) :
    HoldersKept s t :=
  .of_sessions (fun a => by rw [session_congr t s hsessions a]; exact .refl _) hscene hqueue
    fun _ he => hengine.symm.trans he

@[simp] theorem HoldersKept.refl (s : State) : HoldersKept s s := .of_frame

theorem setSession_holders {v : Session} (h : (s.session e).SameHolder v) : HoldersKept s (s.setSession e v) := by
  refine .of_sessions (fun a => ?_) rfl rfl fun _ he => he
  by_cases ha : a = e
  · subst ha
    rwa [session_setSession_same]
  · rw [session_setSession_other s e a v ha]
    exact .refl _

/-- A command may write the Scene Store where each name of the new one is a name of the old, or is OPEN. -/
theorem HoldersKept.of_scene {scene : SceneStore}
    (hstaged : ∀ (k : Fin 8) (r : WindowRecord), scene.staged.windows[k] = some r →
      s.Names r.owner ∨ (s.session r.owner).isOpen = true)
    (hlive : ∀ (k : Fin 8) (r : WindowRecord), scene.live.windows[k] = some r → k ∉ scene.teardown →
      s.Names r.owner ∨ (s.session r.owner).isOpen = true)
    (hissuer : ∀ e, scene.commit.issuer = some e → s.Names e ∨ (s.session e).isOpen = true) :
    HoldersKept s { s with scene := scene } := by
  refine ⟨fun a => .refl _, ?_⟩
  rintro _ (hr | ⟨hr, hk⟩ | hi | ⟨hp, he⟩ | hx)
  · exact hstaged _ _ hr
  · exact hlive _ _ hr hk
  · exact hissuer _ hi
  · exact .inl (.queued hp he)
  · exact .inl (.executing hx)

/-- The staged scene may be replaced by one whose owners are named already, or OPEN. -/
theorem setStaged_holders {sc : Scene} (h : ∀ (k : Fin 8) (r : WindowRecord), sc.windows[k] = some r →
    s.Names r.owner ∨ (s.session r.owner).isOpen = true) : HoldersKept s (s.setStaged sc) :=
  .of_scene h (fun _ _ hr hk => .inl (.live hr hk)) fun _ hi => .inl (.issuer hi)

@[simp] theorem setStaged_holders_of_windows {sc : Scene} (h : sc.windows = s.scene.staged.windows) :
    HoldersKept s (s.setStaged sc) := setStaged_holders fun _ _ hr => .inl (.staged (h ▸ hr))

theorem setWindowRecord_holders {slot : Fin 8} {r : WindowRecord}
    (h : s.Names r.owner ∨ (s.session r.owner).isOpen = true) : HoldersKept s (s.setWindowRecord slot r) := by
  refine setStaged_holders fun k w hw => ?_
  rw [set_window] at hw
  split_ifs at hw
  · cases hw
    exact h
  · exact .inl (.staged hw)

/-! ### Notices, the stages of a frame start, and the link -/

theorem contestEntry_holders (s : State) : HoldersKept s (contestEntry s) := by
  refine .of_frame (by simp) (by simp) (by simp) ?_
  rcases contestEntry_cases s with ⟨-, h⟩ | ⟨⟨⟨htesting, -⟩, -⟩, h | h⟩ <;> rw [h]
  rw [htesting]
  rfl

theorem offerNotice_holders (e : Fin 4) (p : List Byte) (s : State) : HoldersKept s (offerNotice e p s) := by
  unfold offerNotice
  dsimp only
  split_ifs with hopen
  · exact (contestEntry_holders s).trans .of_frame
  · refine (contestEntry_holders s).trans (setSession_holders (Session.sameHolder_of_open ?_))
    rwa [contestEntry_session]
  · exact .refl s

theorem reportLockChange_holders (s : State) : HoldersKept s (reportLockChange s) := by
  unfold reportLockChange
  split
  · exact offerNotice_holders ..
  · exact .refl s

theorem offerSessionEnded_holders (p : Byte) (s : State) : HoldersKept s (offerSessionEnded p s) := by
  unfold offerSessionEnded
  split
  · exact offerNotice_holders ..
  · exact .refl s

/-- R13: the live windows that stay were not listed. -/
theorem teardownStage_holders (s : State) : HoldersKept s (teardownStage s) := by
  refine .of_scene (fun k r hr => .inl (.staged hr)) (fun k r hr _ => ?_) fun e he => .inl (.issuer he)
  change (s.scene.teardown.foldl Scene.release s.scene.live).windows[k] = some r at hr
  rw [foldl_release_window] at hr
  split_ifs at hr with hk
  exact .inl (.live hr hk)

/-- R14: the windows made live were staged, and the cleared record names nobody. -/
theorem commitStage_holders (advanced : Bool) (s : State) : HoldersKept s (commitStage advanced s) := by
  by_cases hdue : s.scene.commitIsDue
  · have hcommitted : HoldersKept s { s with scene := s.scene.committed advanced } :=
      .of_scene (fun k r hr => .inl (.staged hr)) (fun k r hr _ => .inl (.staged hr)) nofun
    rw [commitStage_of_due advanced s hdue]
    split
    · exact hcommitted
    · exact hcommitted.trans (offerNotice_holders ..)
  · rw [commitStage_of_not_due advanced s hdue]
    exact .of_scene (fun k r hr => .inl (.staged hr)) (fun k r hr hk => .inl (.live hr hk)) fun e he => .inl (.issuer he)

theorem finishScene_holders (s : State) : HoldersKept s (finishScene s) :=
  finishScene_rule (J := HoldersKept s) (fun u hu => hu.trans (teardownStage_holders u))
    (fun b u hu => hu.trans (commitStage_holders b u)) (.refl s)

theorem offerSome_holders (owed : List Byte) (s : State) : HoldersKept s (offerSome owed s) :=
  offerSome_rule (J := HoldersKept s) (fun _ hu => hu.trans .of_frame)
    (fun p u hu => hu.trans (offerSessionEnded_holders p u)) (fun _ _ hu => hu.trans .of_frame) owed (.refl s)

theorem offerOwedNotices_holders (s : State) : HoldersKept s (offerOwedNotices s) := by
  have hfold (owed : List Byte) (u : State) : HoldersKept u (owed.foldl (fun s p => offerSessionEnded p s) u) := by
    induction owed generalizing u with
    | nil => exact .refl u
    | cons p rest ih => exact (offerSessionEnded_holders p u).trans (ih _)
  exact (hfold s.expired s).trans .of_frame

theorem blinkCompare_holders (s : State) : HoldersKept s (blinkCompare s) :=
  .of_frame (by simp) (by simp) (by simp) (by simp)

/-- R155: only an OPEN session's idle count advances. -/
theorem compositedFrameStart_holders (g : Option Geometry) (s : State) : HoldersKept s (compositedFrameStart g s) := by
  have hscene : HoldersKept s { s with scene := (compositedFrameStart g s).scene } :=
    .of_scene (fun k r hr => .inl (.staged hr)) (fun k r hr hk => .inl (.live hr hk)) fun e he => .inl (.issuer he)
  refine hscene.trans (.of_sessions (fun a => ?_) rfl rfl fun _ he => he)
  rw [compositedFrameStart_session]
  split_ifs with hopen
  · exact Session.sameHolder_of_open hopen
  · exact .refl _

theorem wakeEngine_entry (s : State) : (wakeEngine s).engine.entry = s.engine.entry := by
  unfold wakeEngine
  split
  · next h =>
    rw [h]
    rfl
  · rfl

theorem closeGap_holders (s : State) : HoldersKept s (closeGap s) := by
  refine .of_frame (by simp) (by simp) (by simp) ?_
  unfold closeGap
  dsimp only
  split
  · rfl
  · split_ifs
    · rfl
    · exact wakeEngine_entry _

theorem putSymbol_holders (sym : Symbol) (s : State) : HoldersKept s (putSymbol sym s) :=
  .of_frame (by simp) (by simp) (by simp) (by simp)

theorem endLineAndFrame_holders (s : State) : HoldersKept s (endLineAndFrame s) := by
  have hput (sym : Symbol) (u : State) : HoldersKept u (putSymbol sym (closeGap u)) :=
    (closeGap_holders u).trans (putSymbol_holders sym _)
  unfold endLineAndFrame
  dsimp only
  split_ifs
  · exact (hput .le s).trans (hput .fe _)
  · exact hput .le s
  · exact hput .fe s
  · exact .refl s

theorem endInterruptedFrame_holders (s : State) : HoldersKept s (endInterruptedFrame reportLockChange s) := by
  have hdrawn (u : State) : HoldersKept u u.draw.2 := .of_frame
  have hended : HoldersKept s (endLineAndFrame s.draw.2).draw.2 :=
    ((hdrawn s).trans (endLineAndFrame_holders _)).trans (hdrawn _)
  unfold endInterruptedFrame
  dsimp only
  split_ifs
  · exact (((hdrawn s).trans (reportLockChange_holders _)).trans (endLineAndFrame_holders _)).trans
      (closeGap_holders _)
  · exact (hended.trans (reportLockChange_holders _)).trans (closeGap_holders _)
  · exact (hended.trans (closeGap_holders _)).trans (reportLockChange_holders _)

theorem withLink_holders {rx : Receiver} {comp : Compositor} {mode : OutputMode} :
    HoldersKept s (s.withLink rx comp mode) := .of_frame

/-- A symbol moves the link, reports a change of lock, or begins a composited frame. -/
theorem receiveSymbol_holders (sym : Symbol) (s : State) : HoldersKept s (receiveSymbol sym s) := by
  by_cases hlock : s.rx.lock = .locked
  · rcases receiveSymbol_cases_of_locked sym hlock with
      ⟨-, rx, comp, h, -⟩ | ⟨-, g, rx, comp, h⟩ | ⟨-, rx, rx', -, h⟩ <;> rw [h]
    · exact withLink_holders
    · exact withLink_holders.trans (compositedFrameStart_holders g _)
    · exact (withLink_holders.trans (reportLockChange_holders _)).trans withLink_holders
  · rcases receiveSymbol_cases_of_not_locked sym hlock with ⟨rx, h, -⟩ | ⟨-, rx, h⟩ <;> rw [h]
    · exact withLink_holders
    · exact withLink_holders.trans (reportLockChange_holders _)

theorem composePixel_holders (x y : Nat) (original : RGB) (s : State) :
    HoldersKept s (composePixel x y original s).2 :=
  .of_frame (by simp [composePixel]) (by simp [composePixel]) (by simp [composePixel]) (by simp [composePixel])

theorem passSymbol_holders (before : FramePos) (sym : Symbol) (s : State) : HoldersKept s (passSymbol before sym s) := by
  unfold passSymbol
  split
  · split
    · exact (composePixel_holders ..).trans (putSymbol_holders ..)
    · exact putSymbol_holders ..
  · exact putSymbol_holders ..

theorem enterHoldover_holders (s : State) : HoldersKept s (enterHoldover s) := by
  have hlost : HoldersKept s (loseLock .holdover .generate s) := .of_frame
  exact (hlost.trans (endInterruptedFrame_holders _)).trans .of_frame

theorem expireWatchdog_holders (s : State) : HoldersKept s (expireWatchdog s) := by
  unfold expireWatchdog
  dsimp only
  split
  · split_ifs
    · exact (enterHoldover_holders _).after .of_frame
    · exact (reportLockChange_holders _).after .of_frame
  all_goals exact .of_frame

theorem generatedPixel_holders (g : Geometry) (k x : Nat) (s : State) : HoldersKept s (generatedPixel g k x s) := by
  unfold generatedPixel
  split_ifs
  · exact (composePixel_holders ..).trans (putSymbol_holders ..)
  · exact putSymbol_holders ..

theorem generateSymbol_holders (g : Geometry) (pos : GenPos) (period : Nat) (s : State) :
    HoldersKept s (generateSymbol g pos period s) := by
  have hput (sym : Symbol) : HoldersKept s (putSymbol sym (closeGap s)) :=
    (closeGap_holders s).trans (putSymbol_holders sym _)
  cases pos with
  | start => exact .refl s
  | ended => exact .refl s
  | line k =>
    unfold generateSymbol
    dsimp only
    split_ifs <;> exact (hput _).trans .of_frame
  | pixel k x => exact ((closeGap_holders s).trans (generatedPixel_holders g k x _)).trans .of_frame
  | lineEnd k => exact (hput _).trans .of_frame
  | frameEnd => exact (hput _).trans .of_frame

theorem enterLocked_holders (g : Geometry) (judged : Bool) (mode : OutputMode) (s : State) :
    HoldersKept s (enterLocked g judged mode s) := (reportLockChange_holders _).after .of_frame

theorem discardOverfull_holders (s : State) : HoldersKept s (discardOverfull s) := by
  have herror : HoldersKept s (framingError s) := by
    cases hrun : s.rx.run with
    | false => rw [framingError_of_run_clear hrun]; exact .of_frame
    | true => rw [framingError_of_run_set hrun]; exact (reportLockChange_holders _).after .of_frame
  unfold discardOverfull
  split
  · split_ifs
    · exact herror
    · exact .refl s
  · exact .of_frame
  · split
    · exact .refl s
    · exact .of_frame
  · exact .refl s
  · exact .refl s

end HoldersKept

end Sys2Proof.Machine

namespace Sys2Proof.Machine

section TableLaw

variable {s t : State} {e : Fin 4} {source seq : Byte} {payload : List Byte}

/-! ### The law at the end and at the opening of a session (R148, R155, R157) -/

theorem TableLaw.open_of_names (h : TableLaw s) (he : s.Names e) : (s.session e).isOpen = true :=
  (ownerLaw_iff s).1 h.2 e he

/-- Where one entry alone is written, it is the only CLIENT that can be new. -/
theorem clientCount_le_of_others (h : ∀ a, a ≠ e → t.session a = s.session a) :
    t.clientCount ≤ s.clientCount + if (t.session e).isOpen && (t.session e).role == .client then 1 else 0 := by
  have hnodup : (allEntries.filter fun a => (t.session a).isOpen && (t.session a).role == .client).Nodup :=
    List.Nodup.filter _ (by decide)
  split_ifs with hclient
  · have hsub : (allEntries.filter fun a => (t.session a).isOpen && (t.session a).role == .client)
        ⊆ e :: allEntries.filter fun a => (s.session a).isOpen && (s.session a).role == .client := by
      intro a ha
      by_cases hae : a = e
      · exact hae ▸ List.mem_cons_self
      · refine List.mem_cons_of_mem _ (List.mem_filter.2 ⟨mem_allEntries a, ?_⟩)
        rw [← h a hae]
        exact (List.mem_filter.1 ha).2
    exact (List.subperm_of_subset hnodup hsub).length_le
  · refine (List.subperm_of_subset hnodup fun a ha => List.mem_filter.2 ⟨mem_allEntries a, ?_⟩).length_le
    have hcounts := (List.mem_filter.1 ha).2
    have hae : a ≠ e := by
      rintro rfl
      exact hclient hcounts
    rwa [← h a hae]

theorem endSession_entry {a : Fin 4} (h : (endSession e s).engine.entry = some a) :
    s.engine.entry = some a ∧ a ≠ e := by
  rw [endSession_engine] at h
  cases hs : s.engine <;> rw [hs] at h
  case idle => cases h
  case testing => simp at h
  case reserved | waiting =>
    dsimp only at h
    split_ifs at h
    · cases h
    · simp at h
  case executing x =>
    dsimp only at h
    split_ifs at h with hown
    · simp at h
    · exact ⟨h, fun hae => hown (h.trans (congrArg some hae))⟩

/-- R157, R17: the part names an ended session no more, and no other entry newly. -/
theorem endSession_names {a : Fin 4} (h : (endSession e s).Names a) : s.Names a ∧ a ≠ e := by
  obtain hr | ⟨hr, hk⟩ | hi | ⟨hp, ha⟩ | hx := h
  · obtain ⟨hr, hne⟩ := (endSession_staged_window e s _ _).1 hr
    exact ⟨.staged hr, hne⟩
  · rw [mem_endSession_teardown, not_or] at hk
    exact ⟨.live hr hk.1, fun ho => hk.2 ⟨_, hr, ho⟩⟩
  · rw [endSession_issuer] at hi
    split_ifs at hi with hissuer
    exact ⟨.issuer hi, fun hae => hissuer (hae ▸ hi)⟩
  · simp only [endSession_commandQueue, List.mem_filter, decide_eq_true_eq] at hp
    exact ⟨.queued hp.1 ha, fun hae => hp.2 (hae ▸ ha)⟩
  · obtain ⟨hx, hne⟩ := endSession_entry hx
    exact ⟨.executing hx, hne⟩

theorem endSession_tableLaw (e : Fin 4) (h : TableLaw s) : TableLaw (endSession e s) := by
  have hopen (a : Fin 4) (ha : ((endSession e s).session a).isOpen = true) : a ≠ e := by
    rintro rfl
    rw [endSession_session_same] at ha
    cases ha
  obtain ⟨hpeers, hcontrol, hclients, hclosed⟩ := h.1
  refine ⟨⟨fun a b ha hb => ?peers, fun a b ha hb => ?control, ?clients, fun a ha => ?closed⟩,
    (ownerLaw_iff _).2 fun a ha => ?owners⟩
  case peers =>
    rw [endSession_session_other s (hopen a ha), endSession_session_other s (hopen b hb)] at *
    exact hpeers a b ha hb
  case control =>
    rw [endSession_session_other s (hopen a ha), endSession_session_other s (hopen b hb)] at *
    exact hcontrol a b ha hb
  case clients =>
    have hcount := clientCount_le_of_others (e := e) fun a ha => endSession_session_other s ha
    rw [endSession_session_same] at hcount
    exact hcount.trans hclients
  case closed =>
    by_cases hae : a = e
    · rw [hae, endSession_session_same]
    · rw [endSession_session_other s hae] at ha ⊢
      exact hclosed a ha
  case owners =>
    obtain ⟨hnamed, hne⟩ := endSession_names ha
    rw [endSession_session_other s hne]
    exact h.open_of_names hnamed

theorem expireEntry_tableLaw (e : Fin 4) (h : TableLaw s) : TableLaw (expireEntry e s) :=
  endSession_tableLaw e (HoldersKept.law (s := s) .of_frame h)

/-- R143, R148: an entry may be opened for a peer and a role that the law lets in. -/
theorem setSession_open_tableLaw {v : Session} (h : TableLaw s) (hclosed : (s.session e).isOpen = false)
    (hopen : v.isOpen = true) (hpeer : s.stranger v.peer) (hcontrol : v.role = .control → s.noControl)
    (hclient : v.role = .client → s.clientCount < 3) : TableLaw (s.setSession e v) := by
  have hother {a : Fin 4} (ha : a ≠ e) := session_setSession_other s e a v ha
  obtain ⟨hpeers, hcontrols, hclients, hclosed'⟩ := h.1
  refine ⟨⟨fun a b ha hb hab => ?peers, fun a b ha hb hra hrb => ?control, ?clients, fun a ha => ?closed⟩,
    (ownerLaw_iff _).2 fun a ha => ?owners⟩
  case peers =>
    by_cases hae : a = e <;> by_cases hbe : b = e
    · rw [hae, hbe]
    · subst hae
      rw [session_setSession_same, hother hbe] at *
      exact absurd hab.symm (hpeer b hb)
    · subst hbe
      rw [session_setSession_same, hother hae] at *
      exact absurd hab (hpeer a ha)
    · rw [hother hae, hother hbe] at *
      exact hpeers a b ha hb hab
  case control =>
    by_cases hae : a = e <;> by_cases hbe : b = e
    · rw [hae, hbe]
    · subst hae
      rw [session_setSession_same, hother hbe] at *
      exact absurd hrb (hcontrol hra b hb)
    · subst hbe
      rw [session_setSession_same, hother hae] at *
      exact absurd hra (hcontrol hrb a ha)
    · rw [hother hae, hother hbe] at *
      exact hcontrols a b ha hb hra hrb
  case clients =>
    have hcount := clientCount_le_of_others (t := s.setSession e v) fun a ha => hother ha
    rw [session_setSession_same, hopen] at hcount
    cases hrole : v.role with
    | control => exact (hcount.trans_eq (by rw [hrole]; rfl)).trans hclients
    | client => exact (hcount.trans_eq (by rw [hrole]; rfl)).trans (hclient hrole)
  case closed =>
    by_cases hae : a = e
    · subst hae
      rw [session_setSession_same, hopen] at ha
      cases ha
    · rw [hother hae] at ha ⊢
      exact hclosed' a ha
  case owners =>
    have hnamed : s.Names a := by
      obtain hr | ⟨hr, hk⟩ | hi | ⟨hp, ha⟩ | hx := ha
      exacts [.staged hr, .live hr hk, .issuer hi, .queued hp ha, .executing hx]
    have hstood := h.open_of_names hnamed
    have hae : a ≠ e := by
      rintro rfl
      exact absurd (hclosed.symm.trans hstood) nofun
    rwa [hother hae]

/-! ### The law over what a frame start owes (R12, R155) -/

theorem endsBeforeStore_tableLaw (h : TableLaw s) : TableLaw (endsBeforeStore s) := by
  unfold endsBeforeStore
  split
  · exact h
  · exact endSome_rule (J := TableLaw) (fun _ hu => HoldersKept.law .of_frame hu) _
      (fun e _ _ hu => expireEntry_tableLaw e hu) h

theorem settle_tableLaw (h : TableLaw s) : TableLaw s.settle := by
  have hfirst : TableLaw (endsBeforeStore s) := endsBeforeStore_tableLaw h
  have hended (u : State) (hu : TableLaw u) : TableLaw (endExpired u) :=
    foldl_expireEntry_rule (J := TableLaw) _ (fun e _ _ hv => expireEntry_tableLaw e hv) hu
  unfold State.settle
  refine (blinkCompare_holders _).law ?_
  dsimp only
  split_ifs
  · exact (((offerSome_holders _ _).trans (finishScene_holders _)).trans (offerOwedNotices_holders _)).law hfirst
  · exact (offerOwedNotices_holders _).law (hended _ ((finishScene_holders _).law hfirst))
  · exact (finishScene_holders s).law h

theorem ready_tableLaw (h : TableLaw s) : TableLaw s.ready :=
  settle_tableLaw (s := s.quiet) (HoldersKept.law (s := s) .of_frame h)

theorem settleSome_tableLaw (h : TableLaw s) : TableLaw (settleSome s) :=
  settleSome_rule (J := TableLaw) (fun _ hu => HoldersKept.law .of_frame hu)
    (fun p u hu => (offerSessionEnded_holders p u).law hu) (fun _ _ hu => HoldersKept.law .of_frame hu)
    (fun u hu => (teardownStage_holders u).law hu) (fun b u hu => (commitStage_holders b u).law hu)
    (fun _ _ e _ _ hv => expireEntry_tableLaw e hv) h

theorem sessionExpiry_tableLaw (h : TableLaw s) : TableLaw (sessionExpiry s) := by
  unfold sessionExpiry
  split
  · exact h
  · next e rest _ =>
    have hended : TableLaw (expireEntry e (match s.scene.stage with
        | .commitDue _ => finishScene s
        | _ => s)) := by
      refine expireEntry_tableLaw e ?_
      split
      · exact (finishScene_holders s).law h
      · exact h
    dsimp only
    split_ifs
    · exact (offerOwedNotices_holders _).law hended
    · exact (offerSome_holders _ _).law hended
    · exact hended

theorem orderedClose_tableLaw {act : State → State} (hact : ∀ u, HoldersKept u (act u)) (h : TableLaw s) :
    TableLaw (orderedClose act s) := by
  have hdrawn : HoldersKept s s.draw.2 := .of_frame
  unfold orderedClose
  dsimp only
  split
  · split_ifs
    · exact (closeGap_holders _).law (settleSome_tableLaw ((hdrawn.trans (hact _)).law h))
    · exact ((hdrawn.trans (closeGap_holders _)).trans (hact _)).law h
    · exact ((closeGap_holders s).trans (hact _)).law h
  · exact (hact s).law h

theorem inputSymbol_tableLaw (sym : Symbol) (h : TableLaw s) : TableLaw (inputSymbol sym s) := by
  have hready : TableLaw s.ready := ready_tableLaw h
  have hreceived : HoldersKept s.ready (receiveSymbol sym s.ready) := receiveSymbol_holders ..
  unfold inputSymbol
  dsimp only
  split
  · exact HoldersKept.law .of_frame hready
  · exact hreceived.law hready
  · split_ifs
    · exact ((hreceived.trans .of_frame).trans (putSymbol_holders ..)).law hready
    · exact hreceived.law hready
  · exact (passSymbol_holders ..).law (orderedClose_tableLaw (receiveSymbol_holders sym) hready)

theorem beginGeneratedFrame_tableLaw (g : Geometry) (h : TableLaw s) : TableLaw (beginGeneratedFrame g s) :=
  (putSymbol_holders ..).law (orderedClose_tableLaw (compositedFrameStart_holders (some g))
    (HoldersKept.law (s := s) .of_frame h))

end TableLaw

end Sys2Proof.Machine

namespace Sys2Proof.Machine

/-! ### The law at the arrival of a packet (R145 to R153) -/

section Arrival

variable {s : State} {e : Fin 4}

/-- R148: past the reopen, the stages of an OPEN keep the law. -/
theorem openEntry_tableLaw {source : Byte} (role : Role) (limit : Nat) (h : TableLaw s) (hpeer : s.stranger source) :
    TableLaw (openEntry source role limit s) := by
  have hjoined (o : Outgoing) : TableLaw (s.joinReplies o) := HoldersKept.law (s := s) .of_frame h
  unfold openEntry
  split_ifs with hcontrol hclient
  · exact hjoined _
  · exact hjoined _
  · split
    · next e hclosed =>
      refine HoldersKept.law (s := s.setSession e _) .of_frame
        (setSession_open_tableLaw h (lowestClosed_eq_some hclosed) rfl hpeer (fun hrole => ?_) fun hrole => ?_)
      · refine controlEntry_eq_none.1 (Option.not_isSome_iff_eq_none.1 fun hsome => hcontrol ⟨hrole, hsome⟩)
      · exact Nat.lt_of_not_le fun hfull => hclient ⟨hrole, hfull⟩
    · exact h

theorem openSession_tableLaw (source : Byte) (role : Role) (limit : Nat) (h : TableLaw s) :
    TableLaw (openSession source role limit s) := by
  unfold openSession
  dsimp only
  split_ifs
  · split
    · next e he =>
      exact openEntry_tableLaw role limit (endSession_tableLaw e h)
        (endSession_stranger (holds_of_entryOf h.1.1 he))
    · next he => exact openEntry_tableLaw role limit h (entryOf_eq_none.1 he)
  · exact h

theorem joinReplies_holders (o : Outgoing) : HoldersKept s (s.joinReplies o) := .of_frame

/-- A packet that joins the Command Queue names an OPEN session, or none. -/
theorem joinCommands_holders {p : Packet} (h : ∀ e, p.session = some e → (s.session e).isOpen = true) :
    HoldersKept s (s.joinCommands p) := by
  refine ⟨fun a => .refl _, ?_⟩
  rintro _ (hr | ⟨hr, hk⟩ | hi | ⟨hq, he⟩ | hx)
  · exact .inl (.staged hr)
  · exact .inl (.live hr hk)
  · exact .inl (.issuer hi)
  · rcases List.mem_append.1 hq with hq | hq
    · exact .inl (.queued hq he)
    · exact .inr (h _ (List.mem_singleton.1 hq ▸ he))
  · refine .inl (.executing ?_)
    revert hx
    unfold State.joinCommands
    cases s.engine
    case idle => exact nofun
    all_goals exact id

theorem resetIdle_holders (hopen : (s.session e).isOpen = true) : HoldersKept s (resetIdle e s) :=
  setSession_holders (Session.sameHolder_of_open hopen)

theorem admitSequenced_holders (seq : Byte) (payload : List Byte) (hopen : (s.session e).isOpen = true) :
    HoldersKept s (admitSequenced e seq payload s) := by
  have hidle : HoldersKept s (resetIdle e s) := resetIdle_holders hopen
  have hopen' : ((resetIdle e s).session e).isOpen = true := (hidle.sessions e).isOpen.trans hopen
  refine hidle.trans ?_
  unfold admitSequenced
  dsimp only
  generalize resetIdle e s = u at hopen' ⊢
  have hwritten {v : Session} (hv : (u.session e).SameHolder v) : HoldersKept u (u.setSession e v) := setSession_holders hv
  split_ifs
  · unfold admitNext
    split_ifs
    · have hjoined : HoldersKept u (u.joinCommands ⟨some e, seq, payload⟩) :=
        joinCommands_holders fun a ha => Option.some.inj ha ▸ hopen'
      exact hjoined.trans (setSession_holders (Session.sameHolder_of_open hopen'))
    · exact hwritten (Session.sameHolder_of_open hopen')
  · unfold admitDuplicate
    repeat' split
    · exact .refl u
    · exact joinReplies_holders _
    · exact .refl u
    · exact .refl u
  · unfold answerOutOfSequence
    split_ifs
    · exact (hwritten (Session.sameHolder_of_open hopen')).trans (joinReplies_holders _)
    · exact .refl u

theorem refuseOpen_holders (source : Byte) (s : State) : HoldersKept s (refuseOpen source s) := by
  unfold refuseOpen
  dsimp only
  split_ifs
  · split
    · next he => exact (resetIdle_holders (entryOf_eq_some he).1).trans (joinReplies_holders _)
    · exact joinReplies_holders _
  · exact .refl s

theorem admitUnicast_tableLaw (source seq : Byte) (payload : List Byte) (h : TableLaw s) :
    TableLaw (admitUnicast source seq payload s) := by
  unfold admitUnicast
  repeat' split
  · exact openSession_tableLaw source _ _ h
  · exact (refuseOpen_holders source s).law h
  · next he => exact (admitSequenced_holders seq payload (entryOf_eq_some he).1).law h
  · exact (joinReplies_holders _).law h
  · exact h
  · exact h

theorem separate_tableLaw (run : List Byte) (kind dest source seq : Byte) (payload : List Byte) (h : TableLaw s) :
    TableLaw (separate run kind dest source seq payload s) := by
  have hforwarded : HoldersKept s (forwardIfOutput run s) := by
    unfold forwardIfOutput
    split_ifs <;> exact .of_frame
  have hbroadcast (u : State) : HoldersKept u (admitBroadcast seq payload u) := by
    unfold admitBroadcast
    split_ifs
    · exact joinCommands_holders nofun
    · exact .refl u
  unfold separate
  split_ifs
  · exact admitUnicast_tableLaw source seq payload h
  · exact (hforwarded.trans (hbroadcast _)).law h
  · exact hforwarded.law h

theorem receivePacket_tableLaw (run : List Byte) (h : TableLaw s) : TableLaw (receivePacket run s) := by
  have hcounted : TableLaw { s with rx := { s.rx with gapPackets := s.rx.gapPackets + 1 } } :=
    HoldersKept.law (s := s) .of_frame h
  unfold receivePacket
  dsimp only
  split_ifs
  · exact (discardOverfull_holders s).law h
  · split
    · exact (discardOverfull_holders _).law hcounted
    · exact HoldersKept.law (s := s) .of_frame h
    · exact separate_tableLaw _ _ _ _ _ _ hcounted

end Arrival

/-! ### The law at the rows of the Command Engine (R161 to R167) -/

section EngineRows

variable {s : State} {e : Fin 4} {x : Executing}

theorem setEngine_holders {n : Engine} (h : ∀ e, n.entry = some e → (s.session e).isOpen = true) :
    HoldersKept s { s with engine := n } := by
  refine ⟨fun a => .refl _, ?_⟩
  rintro _ (hr | ⟨hr, hk⟩ | hi | ⟨hq, he⟩ | hx)
  · exact .inl (.staged hr)
  · exact .inl (.live hr hk)
  · exact .inl (.issuer hi)
  · exact .inl (.queued hq he)
  · exact .inr (h _ hx)

theorem setEngine_holders_of_none {n : Engine} (h : n.entry = none) : HoldersKept s { s with engine := n } :=
  setEngine_holders fun _ ha => absurd (h.symm.trans ha) nofun

/-- A packet of an OPEN session may be in execution. -/
theorem setExecuting_holders (hx : x.packet.session = some e) (hopen : (s.session e).isOpen = true) :
    HoldersKept s { s with engine := .executing x } :=
  setEngine_holders fun a ha => by
    obtain rfl : e = a := Option.some.inj (hx.symm.trans ha)
    exact hopen

theorem endPacket_holders (status : Status) (failed : Nat) (x : Executing) (hopen : (s.session e).isOpen = true) :
    HoldersKept s (endPacket status failed e x s) := by
  have hwritten (v : Session) (hv : (s.session e).SameHolder v) (o : Outgoing) :
      HoldersKept s ((s.setSession e v).joinReplies o) := (setSession_holders hv).trans (joinReplies_holders o)
  unfold endPacket
  refine (hwritten _ ?_ _).trans (setEngine_holders_of_none (nextHead_entry _))
  exact Session.sameHolder_of_open hopen

theorem carryOn_holders (hx : x.packet.session = some e) (hopen : (s.session e).isOpen = true) :
    HoldersKept s (carryOn e x s) := by
  unfold carryOn
  split
  · exact endPacket_holders _ _ x hopen
  · split_ifs
    · exact setExecuting_holders hx hopen
    · exact endPacket_holders _ _ x hopen

theorem carryOnBroadcast_holders (hx : x.packet.session = none) (s : State) :
    HoldersKept s (carryOnBroadcast x s) := by
  have hhead : HoldersKept s { s with engine := nextHead s.commandQueue } := setEngine_holders_of_none (nextHead_entry _)
  unfold carryOnBroadcast
  split
  · split_ifs
    · exact setEngine_holders_of_none hx
    · exact hhead
  · exact hhead

/-- R161: the packet taken is one that was queued. -/
theorem takeHead_tableLaw (h : TableLaw s) : TableLaw (takeHead s) := by
  unfold takeHead
  split
  · exact (setEngine_holders_of_none rfl).law h
  · next p rest hqueue =>
    have hrest : TableLaw { s with commandQueue := rest } := by
      refine HoldersKept.law (s := s) ⟨fun a => .refl _, ?_⟩ h
      rintro _ (hr | ⟨hr, hk⟩ | hi | ⟨hq, he⟩ | hx)
      exacts [.inl (.staged hr), .inl (.live hr hk), .inl (.issuer hi),
        .inl (.queued (hqueue ▸ List.mem_cons_of_mem p hq) he), .inl (.executing hx)]
    split
    · next hp => exact (carryOnBroadcast_holders (x := startPacket p) hp _).law hrest
    · next e hp =>
      have hopen : (s.session e).isOpen = true := h.open_of_names (.queued (hqueue ▸ List.mem_cons_self) hp)
      split_ifs
      · refine HoldersKept.law (carryOn_holders (x := startPacket p) hp ?_) hrest
        exact hopen
      · exact (setEngine_holders_of_none rfl).law h

theorem stepLong_holders {last : Bool} {c : LongCommand} {data : List Byte} (hx : x.packet.session = some e)
    (hopen : (s.session e).isOpen = true) : HoldersKept s (stepLong e x last c data s) := by
  unfold stepLong
  split_ifs
  · exact carryOn_holders (x := x.after data) hx hopen
  · exact setExecuting_holders (x := { x with long := some c }) hx hopen

/-- The session of the packet in execution is OPEN (R17). -/
theorem TableLaw.open_of_executing (h : TableLaw s) (hs : s.engine = .executing x) (hx : x.packet.session = some e) :
    (s.session e).isOpen = true :=
  h.open_of_names (.executing (Engine.entry_eq_some.2 ⟨x, hs, hx⟩))

theorem cellStep_tableLaw (h : TableLaw s) : TableLaw (cellStep s) := by
  have hready : TableLaw s.ready := ready_tableLaw h
  have hwrite (cells : Store Cell) : HoldersKept s.ready { fetchSome s.ready with cells := cells } :=
    .of_frame (by simp) (by simp) (by simp) (by simp)
  unfold cellStep
  dsimp only
  split
  · next x hx =>
    split
    · next hsession _ =>
      have hopen := hready.open_of_executing hx hsession
      exact ((hwrite _).trans (stepLong_holders hsession (((hwrite _).sessions _).isOpen.trans hopen))).law hready
    · next hsession _ =>
      have hopen := hready.open_of_executing hx hsession
      exact ((hwrite _).trans (stepLong_holders hsession (((hwrite _).sessions _).isOpen.trans hopen))).law hready
    · next hsession _ => exact (stepLong_holders hsession (hready.open_of_executing hx hsession)).law hready
    · exact hready
  · exact hready

theorem glyphStep_tableLaw (h : TableLaw s) : TableLaw (glyphStep s) := by
  have hready : TableLaw s.ready := ready_tableLaw h
  unfold glyphStep
  generalize s.ready = u at hready ⊢
  dsimp only
  split
  · next x hx =>
    split
    · next e bank done hsession _ =>
      generalize clearGlyph bank done u.glyphs = glyphs
      have hcleared : HoldersKept u (u.withGlyphs glyphs) := .of_frame
      have hopen := (hcleared.sessions e).isOpen.trans (hready.open_of_executing hx hsession)
      split_ifs
      · exact (hcleared.trans (setExecuting_holders
          (x := { x with long := some (.clearBank bank (done + 1)) }) hsession hopen)).law hready
      · exact (hcleared.trans (carryOn_holders (x := x.after []) hsession hopen)).law hready
    · exact hready
  · exact hready

/-- R11: the record of a SYNC COMMIT names no issuer, and a packet that goes on is the one in execution. -/
theorem syncCommit_tableLaw (h : TableLaw s) : TableLaw (syncCommit s) := by
  have hready : TableLaw s.ready := ready_tableLaw h
  have hrecord (target : Word) : HoldersKept s.ready { s.ready with
      scene := { s.ready.scene with commit := syncRecord target s.ready.scene.commit } } := by
    refine .of_scene (fun k r hr => .inl (.staged hr)) (fun k r hr hk => .inl (.live hr hk)) fun e he => ?_
    unfold syncRecord at he
    dsimp only at he
    split_ifs at he
    exact .inl (.issuer he)
  unfold syncCommit
  dsimp only
  split
  · next x hx =>
    split_ifs
    · split
      · next e hsession =>
        have hopen := hready.open_of_executing hx hsession
        split <;> exact (endPacket_holders _ _ x hopen).law hready
      · next hsession =>
        split
        · exact ((hrecord _).trans (carryOnBroadcast_holders (x := x.after []) hsession _)).law hready
        · exact (setEngine_holders_of_none (nextHead_entry _)).law hready
    · exact hready
  · exact hready

/-! ### The law under a command of the packet (R163) -/

theorem withCommand_tableLaw {code : Byte} {k : Fin 4 → Executing → Option (List Byte) → State → State}
    (h : TableLaw s) (hk : ∀ e x ops, TableLaw s.ready → x.packet.session = some e → (s.ready.session e).isOpen = true →
      TableLaw (k e x ops s.ready)) : TableLaw (withCommand code k s) := by
  have hready : TableLaw s.ready := ready_tableLaw h
  rcases withCommand_cases code k s with hnone | ⟨e, x, hx, hsession, -, -, hrun⟩
  · rw [hnone]
    exact hready
  · rw [hrun]
    exact hk e x _ hready hsession (hready.open_of_executing hx hsession)

/-- A verdict on a command in state `s` leaves a state that satisfies `J`; a refused command has changed nothing. -/
def Verdict.leaves (J : State → Prop) (s : State) (v : Verdict) : Prop := J (v.stateFrom s)

theorem conclude_holders {v : Verdict} (hx : x.packet.session = some e) (hopen : (s.session e).isOpen = true)
    (h : v.leaves (HoldersKept s) s) : HoldersKept s (conclude e x s v) := by
  cases v with
  | refuse status => exact endPacket_holders _ _ x hopen
  | done t data => exact h.trans (carryOn_holders (x := x.after data) hx ((h.sessions e).isOpen.trans hopen))
  | long t c =>
    exact h.trans (setExecuting_holders (x := { x with long := some c }) hx ((h.sessions e).isOpen.trans hopen))

theorem runCommand_tableLaw {code : Byte} {f : Fin 4 → Executing → List Byte → State → Verdict} (h : TableLaw s)
    (hf : ∀ e x ops, (s.ready.session e).isOpen = true → (f e x ops s.ready).leaves (HoldersKept s.ready) s.ready) :
    TableLaw (runCommand code f s) := by
  refine withCommand_tableLaw h fun e x ops hready hx hopen => ?_
  cases ops with
  | none => exact (endPacket_holders _ _ x hopen).law hready
  | some ops => exact (conclude_holders hx hopen (hf e x ops hopen)).law hready

end EngineRows

section Verdicts

variable {J : State → Prop} {s t : State} {e : Fin 4} {x : Executing} {ops : List Byte} {slot : Fin 8}

@[simp] theorem leaves_refuse {status : Status} : (Verdict.refuse status).leaves J s ↔ J s := .rfl

@[simp] theorem leaves_done {data : List Byte} : (Verdict.done t data).leaves J s ↔ J t := .rfl

@[simp] theorem leaves_long {c : LongCommand} : (Verdict.long t c).leaves J s ↔ J t := .rfl

@[simp] theorem leaves_read {data : List Byte} (hs : J s) (h : J t) : (Verdict.read x t data).leaves J s := by
  unfold Verdict.read
  split_ifs
  · exact h
  · exact hs

@[simp] theorem leaves_noOperands {v : Verdict} (hs : J s) (h : v.leaves J s) : (noOperands ops v).leaves J s := by
  unfold noOperands
  split
  · exact h
  · exact hs

@[simp] theorem leaves_controlOnly {v : Verdict} (hs : J s) (h : v.leaves J s) : (controlOnly e s v).leaves J s := by
  unfold controlOnly
  split_ifs
  · exact h
  · exact hs

@[simp] theorem leaves_withinExtents {targets : List Nat} {v : Verdict} (hs : J s) (h : v.leaves J s) :
    (withinExtents e s targets v).leaves J s := by
  unfold withinExtents
  split_ifs
  · exact hs
  · exact h

@[simp] theorem leaves_unsealed {v : Verdict} (hs : J s) (h : v.leaves J s) : (unsealed s v).leaves J s := by
  unfold unsealed
  split_ifs
  · exact hs
  · exact h

@[simp] theorem leaves_withWindow {k : WindowRecord → Verdict} (hs : J s)
    (h : ∀ r, s.scene.staged.windows[slot] = some r → (k r).leaves J s) : (withWindow e slot s k).leaves J s := by
  unfold withWindow
  split
  · exact hs
  · next r hr =>
    split_ifs
    · exact hs
    · exact leaves_unsealed hs (h r hr)

end Verdicts

end Sys2Proof.Machine

namespace Sys2Proof.Machine

/-! ### What each command leaves of the holders and the names (R163) -/

section CommandHolders

variable {s : State} {e : Fin 4} {x : Executing} {ops : List Byte} {slot : Fin 8}

/-- An edit that keeps the owner of a record names nobody new. -/
@[simp] theorem editWindow_holders {edit : WindowRecord → Option WindowRecord}
    (h : ∀ r r', edit r = some r' → r'.owner = r.owner) : (editWindow e slot s edit).leaves (HoldersKept s) s := by
  refine leaves_withWindow (.refl s) fun r hr => ?_
  split
  · next r' hedit => exact setWindowRecord_holders (.inl (h r r' hedit ▸ .staged hr))
  · exact .refl s

/-- R30: the claimed slot belongs to the session of the packet, which is OPEN. -/
theorem claimWindow_holders (hopen : (s.session e).isOpen = true) :
    (claimWindow e x ops s).leaves (HoldersKept s) s := by
  refine leaves_noOperands (.refl s) (leaves_unsealed (.refl s) ?_)
  split
  · exact .refl s
  · exact leaves_read (.refl s) (setWindowRecord_holders (.inr hopen))

/-- R8: the issuer is the session of the packet. -/
theorem commit_holders (hopen : (s.session e).isOpen = true) : (commit e x ops s).leaves (HoldersKept s) s := by
  have hrecord (mode : CommitMode) (target : Word) : HoldersKept s { s with
      scene := { s.scene with commit := ⟨true, mode, target, some e⟩ } } :=
    .of_scene (fun k r hr => .inl (.staged hr)) (fun k r hr hk => .inl (.live hr hk))
      fun a ha => .inr (Option.some.inj ha ▸ hopen)
  unfold commit
  split
  · split
    · split_ifs
      · exact .refl s
      · exact hrecord _ _
    · exact .refl s
  · exact .refl s

/-- R10: the windows that become staged are live and do not await teardown. -/
theorem discard_holders : (discard e x ops s).leaves (HoldersKept s) s := by
  refine leaves_noOperands (.refl s) (.of_scene (fun k r hr => ?_) (fun k r hr hk => .inl (.live hr hk)) nofun)
  rw [discardScene_staged_window] at hr
  split_ifs at hr with hk
  exact .inl (.live hr hk)

theorem releaseWindow_holders : (releaseWindow e x ops s).leaves (HoldersKept s) s := by
  have hreleased (slot : Fin 8) : HoldersKept s (s.setStaged (s.scene.staged.release slot)) := by
    refine setStaged_holders fun k r hr => ?_
    rw [release_window] at hr
    split_ifs at hr
    exact .inl (.staged hr)
  unfold releaseWindow
  split
  · split
    · exact leaves_withWindow (.refl s) fun _ _ => hreleased _
    · exact .refl s
  · exact .refl s

theorem stagedWrite_holders {sc : Scene} (h : sc.windows = s.scene.staged.windows) :
    (stagedWrite e s sc).leaves (HoldersKept s) s :=
  leaves_controlOnly (.refl s) (leaves_unsealed (.refl s) (setStaged_holders_of_windows h))

theorem recordGroupOf_owner {old r : WindowRecord} {group : List Byte} (h : recordGroupOf old group = some r) :
    r.owner = old.owner := by
  unfold recordGroupOf at h
  split at h
  · split at h
    · split_ifs at h
      cases h
      rfl
    · cases h
  · cases h

theorem setWindow_holders : (setWindow e x ops s).leaves (HoldersKept s) s := by
  unfold setWindow
  split
  · split
    · refine editWindow_holders fun r r' hedit => ?_
      split at hedit
      · next hgroup =>
        split_ifs at hedit
        cases hedit
        exact recordGroupOf_owner hgroup
      · cases hedit
    · exact .refl s
  · exact .refl s

@[simp] theorem without_owner (r : WindowRecord) (p : PartName) : (r.without p).owner = r.owner := by
  cases p <;> rfl

/-- R171: reading the status, or clearing the counters, touches no session. -/
theorem readStatus_holders : (readStatus e x ops s).leaves (HoldersKept s) s := by
  have hcleared (data : List Byte) : (Verdict.done (clearLinkCounters s) data).leaves (HoldersKept s) s :=
    HoldersKept.of_frame
  unfold readStatus
  split
  · split_ifs
    · exact leaves_read (.refl s) (.refl s)
    · refine leaves_controlOnly (.refl s) ?_
      unfold Verdict.read
      split_ifs
      · exact hcleared _
      · exact .refl s
    · exact .refl s
  · exact .refl s

theorem deviceSettings_holders : (deviceSettings e x ops s).leaves (HoldersKept s) s := by
  have hdone (settings : DeviceSettings) : HoldersKept s { s with settings := settings } := .of_frame
  unfold deviceSettings
  repeat' split
  all_goals simp [hdone]

theorem writeCells_holders : (writeCells e x ops s).leaves (HoldersKept s) s := by
  have hdone (cells : Store Cell) : HoldersKept s { fetchSome s with cells := cells } :=
    .of_frame (by simp) (by simp) (by simp) (by simp)
  unfold writeCells
  repeat' split
  · exact leaves_withinExtents (.refl s) (hdone _)
  all_goals exact .refl s

theorem writeGlyphRows_holders : (writeGlyphRows e x ops s).leaves (HoldersKept s) s := by
  have hdone (glyphs : Store Word) : HoldersKept s { s with glyphs := glyphs } := .of_frame
  unfold writeGlyphRows
  repeat' split
  all_goals simp [hdone]

theorem closeSession_tableLaw {ops : Option (List Byte)} (h : TableLaw s) (hopen : (s.session e).isOpen = true) :
    TableLaw (closeSession e x ops s) := by
  unfold closeSession
  split
  · exact endSession_tableLaw e ((endPacket_holders _ _ _ hopen).law h)
  · exact (endPacket_holders _ _ x hopen).law h

theorem clearCounters_holders {ops : Option (List Byte)} (hx : x.packet.session = some e)
    (hopen : (s.session e).isOpen = true) : HoldersKept s (clearCounters e x ops s) := by
  unfold clearCounters
  split
  · split_ifs
    · exact conclude_holders hx hopen readStatus_holders
    · exact .refl s
  · exact .refl s

/-- The law at either reset: with the table, both scenes, the record and the queue at their reset values and no packet in
execution, no entry is named (R144, R172). -/
theorem tableLaw_of_reset {t : State} (hsessions : t.sessions = State.reset.sessions := by rfl)
    (hscene : t.scene = State.reset.scene := by rfl) (hqueue : t.commandQueue = State.reset.commandQueue := by rfl)
    (hengine : t.engine.entry = State.reset.engine.entry := by rfl) : TableLaw t :=
  (HoldersKept.of_frame hsessions hscene hqueue hengine).law ⟨reset_sessionLaw, reset_ownerLaw⟩

theorem resetDevice_tableLaw {ops : Option (List Byte)} (h : TableLaw s) (hopen : (s.session e).isOpen = true) :
    TableLaw (resetDevice e x ops s) := by
  unfold resetDevice
  split
  · split_ifs
    · exact tableLaw_of_reset
    · exact (endPacket_holders _ _ x hopen).law h
  · exact (endPacket_holders _ _ x hopen).law h

end CommandHolders

/-- Every row keeps the law of the Session Table and of what names its entries. -/
theorem exec_tableLaw (c : Instr) (s t : State) (hexec : exec c s = .next t) (h : TableLaw s) : TableLaw t := by
  have hready : TableLaw s.ready := ready_tableLaw h
  have hquiet : TableLaw s.quiet := HoldersKept.law (s := s) .of_frame h
  cases c <;> cases hexec
  case resetnAsserted => exact tableLaw_of_reset
  case resetnReleased | initialisationSweepEnd =>
    split_ifs
    · exact HoldersKept.law .of_frame hready
    · exact hready
  case frameStart | lineStart | pixel | lineEnd | frameEnd => exact inputSymbol_tableLaw _ h
  case packetReceived run =>
    split
    · exact HoldersKept.law .of_frame hready
    · exact receivePacket_tableLaw run hready
  case watchdogExpiry =>
    split_ifs
    · exact (expireWatchdog_holders _).law hready
    · exact hready
  case generatedFrameStart =>
    split
    · exact beginGeneratedFrame_tableLaw _ hready
    · split
      · exact beginGeneratedFrame_tableLaw _ hready
      · exact hready
    · exact hready
  case generatedSymbol =>
    split
    · exact (generateSymbol_holders ..).law hready
    · exact hready
  case relockSwitch =>
    split
    · exact (((closeGap_holders _).trans .of_frame).trans (enterLocked_holders ..)).law hready
    · exact hready
  case applyTeardown =>
    split_ifs
    · exact (teardownStage_holders _).law hquiet
    · exact hquiet
  case applyCommit => exact (finishScene_holders _).law hquiet
  case blinkToggle => exact ((finishScene_holders _).trans (blinkCompare_holders _)).law hquiet
  case sessionExpiry => exact sessionExpiry_tableLaw hquiet
  case takeHeadPacket =>
    split
    · exact hready
    all_goals exact takeHead_tableLaw hready
  case cellStep => exact cellStep_tableLaw h
  case glyphStep => exact glyphStep_tableLaw h
  case syncCommit => exact syncCommit_tableLaw h
  case closeSession => exact withCommand_tableLaw h fun _ _ _ hlaw _ => closeSession_tableLaw hlaw
  case clearCounters =>
    exact withCommand_tableLaw h fun _ _ _ hlaw hx hopen => (clearCounters_holders hx hopen).law hlaw
  case resetDevice => exact withCommand_tableLaw h fun _ _ _ hlaw _ => resetDevice_tableLaw hlaw
  case claimWindow => exact runCommand_tableLaw h fun _ _ _ => claimWindow_holders
  case commit => exact runCommand_tableLaw h fun _ _ _ => commit_holders
  case discard => exact runCommand_tableLaw h fun _ _ _ _ => discard_holders
  case releaseWindow => exact runCommand_tableLaw h fun _ _ _ _ => releaseWindow_holders
  case setWindow => exact runCommand_tableLaw h fun _ _ _ _ => setWindow_holders
  case readStatus => exact runCommand_tableLaw h fun _ _ _ _ => readStatus_holders
  case deviceSettings => exact runCommand_tableLaw h fun _ _ _ _ => deviceSettings_holders
  case writeCells => exact runCommand_tableLaw h fun _ _ _ _ => writeCells_holders
  case writeGlyphRows => exact runCommand_tableLaw h fun _ _ _ _ => writeGlyphRows_holders
  all_goals
    refine runCommand_tableLaw h fun e x ops _ => ?_
    generalize s.ready = u
  case moveWindow | setScroll | setCursor | setBorder | setKey | setSplit | clearPart =>
    simp only [moveWindow, setScroll, setCursor, setBorder, setKey, setSplit, clearPart]
    repeat' split
    all_goals simp +contextual
  case showWindow | hideWindow =>
    simp only [showWindow, hideWindow]
    repeat' split
    all_goals simp
  case setPalette | setColours | setOptions =>
    simp only [setPalette, setColours, setOptions]
    repeat' split
    · exact stagedWrite_holders rfl
    all_goals exact .refl u
  all_goals
    simp only [keepalive, identify, openSessionCommand, readWindow, readOrder, fillCells, copyCells, readCells, findCells,
      clearBank, readGlyph, readPalette, readColours]
    repeat' split
    all_goals simp

/-- Settles O57: every entry that the part names outside the table is OPEN, and no row names another. -/
theorem stepsKeepTheSessionsAndOwners : Obligations.StepsKeepTheSessionsAndOwners := by
  intro s t hstep h
  unfold step at hstep
  split at hstep
  · cases hstep
    exact h
  · next c rest _ => exact exec_tableLaw c { s with pending := rest } t hstep (HoldersKept.law (s := s) .of_frame h)

end Sys2Proof.Machine

namespace Sys2Proof.Machine

/-! ### Admission replies (R145, R153, Table 53) -/

theorem flagsByte_eq (overrun noticeLost pending : Bool) : flagsByte overrun noticeLost pending =
    byte ((if overrun then 1 else 0) + (if noticeLost then 2 else 0) + (if pending then 4 else 0)) := by
  cases overrun <;> cases noticeLost <;> cases pending <;> decide

theorem replyPayload_eq (status : Status) (failed executed : Nat) (overrun noticeLost pending : Bool)
    (epoch frame : Word) (data : List Byte) :
    replyPayload status failed executed (flagsByte overrun noticeLost pending) epoch frame data =
      replyBytes status.byte.toNat failed executed overrun noticeLost pending epoch frame data := by
  have hstatus : byte status.byte.toNat = status.byte := by cases status <;> rfl
  rw [replyPayload, replyBytes, flagsByte_eq, hstatus]

theorem plainReply_eq (status : Status) (failed executed : Nat) (dest seq : Byte) (data : List Byte) (s : State) :
    plainReply status failed executed dest data s seq =
      s.admissionEntry status.byte.toNat failed executed dest seq data :=
  congrArg (Outgoing.mk .reply dest seq) (replyPayload_eq ..)

theorem replyRoom_eq_true {s : State} : s.replyRoom = true ↔ s.hasReplyRoom := decide_eq_true_iff

/-! ### A command packet for this unit (R125, R145) -/

section Arrival

variable {s : State} {run : List Byte} {source seq : Byte} {payload : List Byte} {e : Fin 4}

theorem controllerAddress_iff (a : Byte) :
    controllerAddress a = true ↔ a ≠ 0 ∧ a ≠ 0xFF ∧ ¬ (0x80 ≤ a.toNat ∧ a.toNat ≤ 0x8F) := decide_eq_true_iff

theorem exec_unicast (h : s.takes run 0xC1 s.unitAddress source seq payload) :
    exec (.packetReceived run) s = .next (admitUnicast source seq payload s.counted) := by
  have hself : (0xC1 : Byte) = kindCommand ∧ s.unitAddress = s.counted.unitAddress := ⟨rfl, rfl⟩
  rw [exec_packet_good h, separate, if_pos hself]

/-- R145: a source that is no controller address is discarded. -/
theorem exec_unicast_of_no_controller (h : s.takes run 0xC1 s.unitAddress source seq payload)
    (hsource : source = 0 ∨ source = 0xFF ∨ (0x80 ≤ source.toNat ∧ source.toNat ≤ 0x8F)) :
    exec (.packetReceived run) s = .next s.counted := by
  have hno : ¬ controllerAddress source = true := by
    rw [controllerAddress_iff]
    tauto
  rw [exec_unicast h, admitUnicast, if_neg hno]

theorem exec_open {role : Role} {limit : Nat} (h : s.takesCommand run source 0 payload)
    (hopen : openRequest payload = some (role, limit)) :
    exec (.packetReceived run) s = .next (openSession source role limit s.counted) := by
  obtain ⟨htakes, hsource⟩ := h
  rw [exec_unicast htakes, admitUnicast, if_pos ((controllerAddress_iff source).2 hsource), if_pos rfl]
  simp only [hopen]

theorem exec_badOpen (h : s.takesCommand run source 0 payload) (hbad : openRequest payload = none) :
    exec (.packetReceived run) s = .next (refuseOpen source s.counted) := by
  obtain ⟨htakes, hsource⟩ := h
  rw [exec_unicast htakes, admitUnicast, if_pos ((controllerAddress_iff source).2 hsource), if_pos rfl]
  simp only [hbad]

theorem exec_sequenced (h : s.takesCommand run source seq payload) (hseq : seq ≠ 0) (hholds : s.holds source e) :
    exec (.packetReceived run) s = .next (admitSequenced e seq payload s.counted) := by
  obtain ⟨htakes, hsource⟩ := h
  have hentry : s.counted.entryOf source = some e := entryOf_of_holds hholds
  rw [exec_unicast htakes, admitUnicast, if_pos ((controllerAddress_iff source).2 hsource), if_neg hseq]
  simp only [hentry]

/-- R149: without a session of the peer the packet is answered NO_SESSION, if a Reply Queue entry is free. -/
theorem exec_sequenced_of_stranger (h : s.takesCommand run source seq payload) (hseq : seq ≠ 0)
    (hstranger : s.stranger source) : exec (.packetReceived run) s =
      .next (if s.replyRoom then s.counted.joinReplies (plainReply .noSession 0 0 source [] s.counted seq)
        else s.counted) := by
  obtain ⟨htakes, hsource⟩ := h
  have hentry : s.counted.entryOf source = none := entryOf_eq_none.2 hstranger
  rw [exec_unicast htakes, admitUnicast, if_pos ((controllerAddress_iff source).2 hsource), if_neg hseq]
  simp only [hentry]
  rfl

/-! ### A packet with sequence 0 (R147, R148) -/

theorem openRequest_of_wellFormed {rb lh ll : Byte} {role : Role}
    (hrole : rb = 1 ∧ role = .control ∨ rb = 2 ∧ role = .client) (hlimit : 60 ≤ be16 lh ll) :
    openRequest [0x01, 3, rb, lh, ll] = some (role, be16 lh ll) := by
  have hof : roleOf rb = some role := by rcases hrole with ⟨rfl, rfl⟩ | ⟨rfl, rfl⟩ <;> rfl
  simp only [openRequest, hof]
  exact if_pos ⟨rfl, trivial, hlimit⟩

theorem roleOf_eq_some {b : Byte} {role : Role} (h : roleOf b = some role) : b = 1 ∨ b = 2 := by
  unfold roleOf at h
  split_ifs at h with h1 h2
  · exact .inl h1
  · exact .inr h2

theorem openRequest_of_illFormed (h : ∀ rb lh ll : Byte, payload = [0x01, 3, rb, lh, ll] → (rb = 1 ∨ rb = 2) →
    be16 lh ll < 60) : openRequest payload = none := by
  unfold openRequest
  split
  · next code len role lh ll =>
    split
    · next hrole =>
      refine if_neg fun ⟨hcode, hlen, hlimit⟩ => ?_
      subst hcode hlen
      exact Nat.not_lt.2 hlimit (h role lh ll rfl (roleOf_eq_some hrole))
    · rfl
  · rfl

/-- R148, stage 1: the peer's old session, if it holds one, has ended. -/
def State.reopened (s : State) (source : Byte) : State :=
  match s.entryOf source with
  | some e => endSession e s
  | none => s

theorem openSession_eq (role : Role) (limit : Nat) : openSession source role limit s =
    if s.replyRoom then openEntry source role limit (s.reopened source) else s := rfl

theorem reopened_of_stranger (h : s.stranger source) : s.reopened source = s := by
  rw [State.reopened, entryOf_eq_none.2 h]

theorem reopened_of_holds (h : s.holds source e) : s.reopened source = endSession e s := by
  rw [State.reopened, entryOf_of_holds h]

theorem openEntry_roleTaken (limit : Nat)
    (h : ∃ a : Fin 4, (s.session a).isOpen = true ∧ (s.session a).role = .control) :
    openEntry source .control limit s =
      { s with replyQueue := s.replyQueue ++ [s.admissionEntry 0x0D 0 0 source 0 []] } := by
  have htaken : s.controlEntry.isSome = true := by
    obtain ⟨a, hopen, hrole⟩ := h
    refine Option.isSome_iff_ne_none.2 fun hnone => ?_
    exact controlEntry_eq_none.1 hnone a hopen hrole
  rw [openEntry, if_pos ⟨rfl, htaken⟩, plainReply_eq]
  rfl

theorem openEntry_tableFull (limit : Nat) (h : 3 ≤ s.clientCount) : openEntry source .client limit s =
    { s with replyQueue := s.replyQueue ++ [s.admissionEntry 0x0C 0 0 source 0 []] } := by
  rw [openEntry, if_neg (fun hcontrol => nomatch hcontrol.1), if_pos ⟨rfl, h⟩, plainReply_eq]
  rfl

/-- R148: the lowest CLOSED entry opens, and its reply is cached. -/
theorem openEntry_opens {role : Role} (limit : Nat) (hcontrol : role = .control → s.noControl)
    (hclient : role = .client → s.clientCount < 3) (hclosed : (s.session e).isOpen = false)
    (hlow : ∀ a : Fin 4, a < e → (s.session a).isOpen = true) :
    let reply := s.admissionEntry 0x00 0 1 source 0 [byte e.1]
    openEntry source role limit s =
      { s.setSession e ⟨true, source, role, 1, 0, some reply, false, 0, limit, false, false⟩ with
        replyQueue := s.replyQueue ++ [reply] } := by
  have hfree : ¬ (role = .control ∧ s.controlEntry.isSome = true) := fun ⟨hrole, hsome⟩ => by
    rw [controlEntry_eq_none.2 (hcontrol hrole)] at hsome
    cases hsome
  have hroom : ¬ (role = .client ∧ 3 ≤ s.clientCount) := fun ⟨hrole, hfull⟩ => absurd (hclient hrole) (Nat.not_lt.2 hfull)
  rw [openEntry, if_neg hfree, if_neg hroom, lowestClosed_of_lowest hclosed hlow]
  simp only [plainReply_eq]
  rfl

/-- R147: BAD_OPEN, with no session of the peer. -/
theorem refuseOpen_of_stranger (hroom : s.hasReplyRoom) (h : s.stranger source) : refuseOpen source s =
    { s with replyQueue := s.replyQueue ++ [s.admissionEntry 0x0F 1 0 source 0 []] } := by
  rw [refuseOpen, if_pos (replyRoom_eq_true.2 hroom), entryOf_eq_none.2 h]
  simp only [plainReply_eq]
  rfl

/-- R147: BAD_OPEN, with a session of the peer, which goes on. -/
theorem refuseOpen_of_holds (hroom : s.hasReplyRoom) (h : s.holds source e) : refuseOpen source s =
    { s.setSession e { s.session e with idle := 0 } with
      replyQueue := s.replyQueue ++ [s.admissionEntry 0x0F 1 0 source 0 []] } := by
  rw [refuseOpen, if_pos (replyRoom_eq_true.2 hroom), entryOf_of_holds h]
  simp only [plainReply_eq]
  rfl

theorem refuseOpen_of_no_room (hroom : ¬ s.hasReplyRoom) : refuseOpen source s = s := by
  rw [refuseOpen, if_neg (mt replyRoom_eq_true.1 hroom)]

end Arrival

/-- Settles O21: the row is `openSession` or `refuseOpen`, and each branch of R148 and R147 has its equation above. -/
theorem openPacketsAreAnswered : Obligations.OpenPacketsAreAnswered := by
  refine ⟨fun s run source rb lh ll role htakes hrole hlimit => ?opens,
    fun s run source payload => ⟨fun htakes hill => ?refused, fun seq => exec_unicast_of_no_controller⟩⟩
  case opens =>
    rw [exec_open htakes (openRequest_of_wellFormed hrole hlimit), openSession_eq]
    refine ⟨fun hroom => by rw [if_neg (mt (replyRoom_eq_true (s := s.counted)).1 hroom)], fun base hroom hbase => ?_⟩
    have hreopened : s.counted.reopened source = base := by
      rcases hbase with ⟨hstranger, rfl⟩ | ⟨old, hholds, rfl⟩
      · exact reopened_of_stranger hstranger
      · exact reopened_of_holds hholds
    rw [if_pos ((replyRoom_eq_true (s := s.counted)).2 hroom), hreopened]
    refine ⟨?_, ?_, fun e hcontrol hclient hclosed hlow => ?_⟩
    · rintro rfl htaken
      rw [openEntry_roleTaken _ htaken]
    · rintro rfl hfull
      rw [openEntry_tableFull _ hfull]
    · exact congrArg _ (openEntry_opens _ hcontrol hclient hclosed hlow)
  case refused =>
    rw [exec_badOpen htakes (openRequest_of_illFormed hill)]
    refine ⟨fun hroom => by rw [refuseOpen_of_no_room (s := s.counted) hroom], fun hroom hstranger => ?_, fun e hroom hholds => ?_⟩
    · exact congrArg _ (refuseOpen_of_stranger (s := s.counted) hroom hstranger)
    · exact congrArg _ (refuseOpen_of_holds (s := s.counted) hroom hholds)

end Sys2Proof.Machine

namespace Sys2Proof.Machine

/-! ### A packet with sequence 1 to 255 (R149 to R153) -/

theorem setSession_setSession (s : State) (e : Fin 4) (v w : Session) :
    (s.setSession e v).setSession e w = s.setSession e w := by
  simp only [State.setSession, Vector.set_set]

/-- R161: a packet that joins the Command Queue is tested at once by an idle engine. -/
theorem joinCommands_eq (p : Packet) (s : State) : s.joinCommands p =
    { s with commandQueue := s.commandQueue ++ [p], engine := if s.engine = .idle then .testing else s.engine } := by
  cases hengine : s.engine <;> simp only [State.joinCommands, hengine] <;> rfl

section Admission

variable {s : State} {e : Fin 4} {source seq : Byte} {payload : List Byte}

theorem resetIdle_session : (resetIdle e s).session e = { s.session e with idle := 0 } :=
  session_setSession_same s e _

/-- R150: the next expected sequence joins the Command Queue. -/
theorem admitSequenced_next (hseq : seq = (s.session e).nextSeq) (hroom : s.commandQueue.length < 4) :
    admitSequenced e seq payload s =
      { s.setSession e { s.session e with
          idle := 0, lastSeq := seq, nextSeq := if seq = 255 then 1 else seq + 1, inProgress := true } with
        commandQueue := s.commandQueue ++ [⟨some e, seq, payload⟩]
        engine := if s.engine = .idle then .testing else s.engine } := by
  have hnext : seq = ((resetIdle e s).session e).nextSeq := by rw [resetIdle_session]; exact hseq
  have hfree : (resetIdle e s).commandQueue.length < Config.commandQueueCapacity := hroom
  rw [admitSequenced, if_pos hnext, admitNext, if_pos hfree, joinCommands_eq, resetIdle_session]
  simp only [resetIdle, State.setSession, Vector.set_set]
  rfl

/-- R150: at a full Command Queue the packet sets OVERRUN. -/
theorem admitSequenced_overrun (hseq : seq = (s.session e).nextSeq) (hfull : 4 ≤ s.commandQueue.length) :
    admitSequenced e seq payload s = s.setSession e { s.session e with idle := 0, overrun := true } := by
  have hnext : seq = ((resetIdle e s).session e).nextSeq := by rw [resetIdle_session]; exact hseq
  have hno : ¬ (resetIdle e s).commandQueue.length < Config.commandQueueCapacity := Nat.not_lt.2 hfull
  rw [admitSequenced, if_pos hnext, admitNext, if_neg hno, resetIdle_session]
  exact setSession_setSession s e _ _

/-- R151: the last accepted sequence is a duplicate. -/
theorem admitSequenced_last (hseq : seq ≠ (s.session e).nextSeq) (hlast : seq = (s.session e).lastSeq) :
    admitSequenced e seq payload s = admitDuplicate e (resetIdle e s) := by
  have hnext : seq ≠ ((resetIdle e s).session e).nextSeq := by rw [resetIdle_session]; exact hseq
  have hdup : seq = ((resetIdle e s).session e).lastSeq := by rw [resetIdle_session]; exact hlast
  rw [admitSequenced, if_neg hnext, if_pos hdup]

theorem admitDuplicate_of_inProgress (h : (s.session e).inProgress = true) : admitDuplicate e s = s := by
  rw [admitDuplicate, if_pos h]

theorem admitDuplicate_of_cache {o : Outgoing} (hdone : (s.session e).inProgress = false)
    (hcache : (s.session e).cache = some o) :
    admitDuplicate e s = if s.replyRoom then s.joinReplies o else s := by
  have hnot : ¬ (s.session e).inProgress = true := by rw [hdone]; exact Bool.false_ne_true
  rw [admitDuplicate, if_neg hnot, hcache]

/-- R152: any other sequence is answered OUT_OF_SEQUENCE. -/
theorem admitSequenced_other (hseq : seq ≠ (s.session e).nextSeq) (hlast : seq ≠ (s.session e).lastSeq) :
    admitSequenced e seq payload s = answerOutOfSequence e seq (resetIdle e s) := by
  have hnext : seq ≠ ((resetIdle e s).session e).nextSeq := by rw [resetIdle_session]; exact hseq
  have hdup : seq ≠ ((resetIdle e s).session e).lastSeq := by rw [resetIdle_session]; exact hlast
  rw [admitSequenced, if_neg hnext, if_neg hdup]

/-- R152, R153: the answer carries the flags and clears them. -/
theorem answerOutOfSequence_of_room (hroom : s.hasReplyRoom) :
    answerOutOfSequence e seq s =
      { s.setSession e { s.session e with overrun := false, noticeLost := false } with
        replyQueue := s.replyQueue ++ [⟨.reply, (s.session e).peer, seq,
          replyBytes 0x0E 0 0 (s.session e).overrun (s.session e).noticeLost s.scene.commit.pending s.scene.epoch
            s.scene.frameCounter [(s.session e).nextSeq]⟩] } := by
  rw [answerOutOfSequence, if_pos (replyRoom_eq_true.2 hroom)]
  simp only [admissionReply, replyPayload_eq]
  rfl

theorem answerOutOfSequence_of_no_room (hroom : ¬ s.hasReplyRoom) : answerOutOfSequence e seq s = s := by
  rw [answerOutOfSequence, if_neg (mt replyRoom_eq_true.1 hroom)]

end Admission

/-- Settles O22: the row is `admitSequenced` for a peer with a session, whose three tests have their equations above. -/
theorem sequencedPacketsAreAdmitted : Obligations.SequencedPacketsAreAdmitted := by
  intro s run source seq payload htakes hseq
  refine ⟨fun hstranger => ?stranger, fun e hholds => ?holder⟩
  case stranger =>
    rw [exec_sequenced_of_stranger htakes hseq hstranger]
    refine ⟨fun hroom => ?_, fun hroom => ?_⟩
    · rw [if_pos (replyRoom_eq_true.2 hroom), plainReply_eq]
      rfl
    · rw [if_neg (mt replyRoom_eq_true.1 hroom)]
  case holder =>
    rw [exec_sequenced htakes hseq hholds]
    have hpeer : (s.session e).peer = source := hholds.2.1
    let r := resetIdle e s.counted
    have hr : r.session e = { s.session e with idle := 0 } := resetIdle_session
    refine ⟨fun hnext hroom => ?_, fun hnext hfull => ?_, fun hnext hlast hbusy => ?_,
      fun o hnext hlast hdone hcache => ?_, fun hnext hlast => ?_⟩
    · exact congrArg _ (admitSequenced_next (s := s.counted) hnext hroom)
    · exact congrArg _ (admitSequenced_overrun (s := s.counted) hnext hfull)
    · have hbusy' : (r.session e).inProgress = true := by rw [hr]; exact hbusy
      rw [admitSequenced_last (s := s.counted) hnext hlast, admitDuplicate_of_inProgress hbusy']
      rfl
    · have hdone' : (r.session e).inProgress = false := by rw [hr]; exact hdone
      have hcache' : (r.session e).cache = some o := by rw [hr]; exact hcache
      rw [admitSequenced_last (s := s.counted) hnext hlast, admitDuplicate_of_cache hdone' hcache']
      refine ⟨fun hroom => ?_, fun hroom => ?_⟩
      · rw [if_pos ((replyRoom_eq_true (s := r)).2 hroom)]
        rfl
      · rw [if_neg (mt (replyRoom_eq_true (s := r)).1 hroom)]
        rfl
    · rw [admitSequenced_other (s := s.counted) hnext hlast]
      refine ⟨fun hroom => ?_, fun hroom => ?_⟩
      · rw [answerOutOfSequence_of_room (s := r) hroom, hr]
        simp only [r, resetIdle, setSession_setSession, hpeer]
        rfl
      · rw [answerOutOfSequence_of_no_room (s := r) hroom]
        rfl

end Sys2Proof.Machine

namespace Sys2Proof.Machine

/-! ### SESSION_ENDED notices offered in order (R156, R159, R161) -/

section Ends

variable {s t u v : State} {c e : Fin 4} {peers : List Byte}

/-- What the notices of ends do depends on the desk they are offered at. -/
theorem SameDesk.endsTold_left (h : SameDesk u v) (ht : endsTold v t peers) : endsTold u t peers := by
  obtain ⟨hnone, htold⟩ := ht
  refine ⟨fun hno => ?_, fun c hc => ?_⟩
  · obtain ⟨hq, hs, he⟩ := hnone (h.noControl hno)
    exact ⟨hq.trans h.replies, hs.trans h.sessions, he.trans h.engine⟩
  · simpa only [State.testsSession, State.reservations, h.replies, h.engine, h.commands, h.session] using
      htold c (h.control hc)

/-- What is told stays told while the queue of replies, the sessions and the engine stand. -/
theorem SameDesk.endsTold_right (h : SameDesk t v) (ht : endsTold u t peers) : endsTold u v peers := by
  obtain ⟨hnone, htold⟩ := ht
  refine ⟨fun hno => ?_, fun c hc => ?_⟩
  · obtain ⟨hq, hs, he⟩ := hnone hno
    exact ⟨h.replies.trans hq, h.sessions.trans hs, h.engine.trans he⟩
  · simpa only [h.replies, h.engine, h.session] using htold c hc

theorem SameDesk.endsTold_nil (h : SameDesk u t) : endsTold u t [] := by
  refine ⟨fun _ => ⟨h.replies, h.sessions, h.engine⟩, fun c _ => ⟨_, .inl ⟨rfl, h.engine⟩, ?_, ?_, fun a _ => h.session a⟩⟩
  · simp [h.replies]
  · simp [h.session c]

theorem offerSessionEnded_of_control (p : Byte) (h : u.control c) :
    offerSessionEnded p u = offerNotice c (sessionEndedPayload p) u := by
  rw [offerSessionEnded, controlEntry_of_control h]

theorem offerSessionEnded_offered (p : Byte) (h : u.control c) :
    noticeOffered u (offerSessionEnded p u) c [0x02, p, 0x01] := by
  rw [offerSessionEnded_of_control p h]
  exact offerNotice_offered c _ u ((h c).2 rfl).1

/-- A notice dropped for `c` changes no entry's role or openness. -/
theorem control_of_dropped (hdropped : noticeDropped u v c) (h : u.control c) : v.control c := fun a => by
  obtain ⟨-, hflag, hothers⟩ := hdropped
  rw [← h a]
  by_cases ha : a = c
  · rw [ha, hflag]
  · rw [hothers a ha]

/-- R161: behind a notice dropped for want of an entry, or for the engine's sake, no entry is free. -/
theorem no_room_of_dropped (hq : v.replyQueue = u.replyQueue)
    (hengine : v.engine = u.engine ∧ ¬ u.hasReplyRoom ∨ u.contested ∧ v.engine = .reserved) :
    8 - (v.replyQueue.length + v.reservations) = 0 := by
  rcases hengine with ⟨he, hroom⟩ | ⟨⟨-, hseven⟩, he⟩
  · have hreserved : v.reservations = u.reservations := by simp only [State.reservations, he]
    rw [hq, hreserved]
    exact Nat.sub_eq_zero_of_le (Nat.not_lt.1 hroom)
  · simp [State.reservations, he, hq, hseven]

/-- Once a notice is lost with no entry free behind it, all the later ones are lost too. -/
theorem endsTold_cons_of_dropped {p : Byte} (hdropped : noticeDropped u v c) (hc : u.control c)
    (hengine : v.engine = u.engine ∧ ¬ u.hasReplyRoom ∨ u.contested ∧ v.engine = .reserved)
    (ht : endsTold v t peers) : endsTold u t (p :: peers) := by
  have hvc : v.control c := control_of_dropped hdropped hc
  obtain ⟨hq, hflag, hothers⟩ := hdropped
  refine ⟨fun hno => absurd ((hc c).2 rfl).2 (hno c ((hc c).2 rfl).1), fun c' hc' => ?_⟩
  obtain rfl : c' = c := (hc c').1 ((hc' c').2 rfl)
  obtain ⟨n, hn, hqueue, hsession, hrest⟩ := ht.2 c' hvc
  rw [no_room_of_dropped hq hengine] at hn
  obtain ⟨rfl, hte⟩ : n = 0 ∧ t.engine = v.engine := hn.resolve_right fun ⟨_, hzero, _⟩ => Nat.succ_ne_zero n hzero
  refine ⟨0, ?_, ?_, ?_, fun a ha => (hrest a ha).trans (hothers a ha)⟩
  · rcases hengine with ⟨he, hroom⟩ | ⟨⟨htests, hseven⟩, he⟩
    · exact .inl ⟨(Nat.sub_eq_zero_of_le (Nat.not_lt.1 hroom)).symm, hte.trans he⟩
    · have hfree : 8 - (u.replyQueue.length + u.reservations) = 1 := by
        simp only [State.reservations, htests.1, hseven]
      rw [hfree]
      exact .inr ⟨htests, rfl, Nat.le_add_left 1 _, hte.trans he⟩
  · simpa [hq] using hqueue
  · rw [hsession, hflag]
    simp

/-- A notice that joined is one of the free entries' count. -/
theorem endsTold_cons_of_joined {p : Byte} (hc : u.control c) (hroom : u.hasReplyRoom)
    (hq : v.replyQueue = u.replyQueue ++ [⟨.notice, (u.session c).peer, 0, [0x02, p, 0x01]⟩])
    (hs : v.sessions = u.sessions) (he : v.engine = u.engine) (hcommands : v.commandQueue = u.commandQueue)
    (ht : endsTold v t peers) : endsTold u t (p :: peers) := by
  have hsame (a : Fin 4) : v.session a = u.session a := session_congr v u hs a
  have hvc : v.control c := fun a => by rw [hsame a]; exact hc a
  have hreserved : v.reservations = u.reservations := by simp only [State.reservations, he]
  have htests : v.testsSession → u.testsSession := by
    simp only [State.testsSession, he, hcommands]
    exact id
  refine ⟨fun hno => absurd ((hc c).2 rfl).2 (hno c ((hc c).2 rfl).1), fun c' hc' => ?_⟩
  obtain rfl : c' = c := (hc c').1 ((hc' c').2 rfl)
  obtain ⟨n, hn, hqueue, hsession, hrest⟩ := ht.2 c' hvc
  have hlength : v.replyQueue.length = u.replyQueue.length + 1 := by simp [hq]
  rw [hlength, hreserved] at hn
  refine ⟨n + 1, ?_, ?_, ?_, fun a ha => (hrest a ha).trans (hsame a)⟩
  · simp only [State.hasReplyRoom] at hroom
    refine hn.imp (fun ⟨hn, hte⟩ => ⟨by omega, hte.trans he⟩) fun ⟨hv, hn, hlast, hte⟩ => ?_
    exact ⟨htests hv, by omega, by rw [List.length_cons]; omega, hte⟩
  · rw [hqueue, hq, hsame c', List.append_assoc]
    rfl
  · simp only [hsession, hsame c', List.length_cons, Nat.add_le_add_iff_right]

/-- One more notice, offered before the others. -/
theorem endsTold_cons (p : Byte) (ht : endsTold (offerSessionEnded p u) t peers) : endsTold u t (p :: peers) := by
  by_cases hsome : ∃ c, u.control c
  · obtain ⟨c, hc⟩ := hsome
    have hoffered := offerSessionEnded_offered p hc
    by_cases hroom : u.hasReplyRoom
    · rcases hoffered.1 hroom with ⟨hq, hs, he⟩ | ⟨hcontested, hdropped, he⟩
      · exact endsTold_cons_of_joined hc hroom hq hs he (by simp) ht
      · exact endsTold_cons_of_dropped hdropped hc (.inr ⟨hcontested, he⟩) ht
    · obtain ⟨hdropped, he⟩ := hoffered.2 hroom
      exact endsTold_cons_of_dropped hdropped hc (.inl ⟨he, hroom⟩) ht
  · refine ⟨fun hno => ?_, fun c hc => absurd ⟨c, hc⟩ hsome⟩
    rw [offerSessionEnded_of_noControl p hno] at ht
    exact ht.1 hno

theorem draw_sameDesk (u : State) : SameDesk u u.draw.2 := ⟨rfl, rfl, rfl, rfl⟩

theorem owed_sameDesk (u : State) (owed : List Byte) : SameDesk u { u with expired := owed } := ⟨rfl, rfl, rfl, rfl⟩

/-- R156: some of the owed notices are offered, oldest first; the others stay owed (log entry 5). -/
theorem offerSome_told (peers : List Byte) (u : State) :
    ∃ n, (offerSome peers u).expired = peers.drop n ∧ endsTold u (offerSome peers u) (peers.take n) := by
  induction peers generalizing u with
  | nil => exact ⟨0, rfl, (owed_sameDesk u []).endsTold_nil⟩
  | cons p rest ih =>
    unfold offerSome
    dsimp only
    split_ifs
    · obtain ⟨n, howed, htold⟩ := ih (offerSessionEnded p u.draw.2)
      exact ⟨n + 1, howed, (draw_sameDesk u).endsTold_left (endsTold_cons p htold)⟩
    · exact ⟨0, rfl, ((draw_sameDesk u).endsTold_left (owed_sameDesk u.draw.2 (p :: rest)).endsTold_nil)⟩

theorem foldl_offerSessionEnded_told (peers : List Byte) (u : State) :
    endsTold u (peers.foldl (fun s p => offerSessionEnded p s) u) peers := by
  induction peers generalizing u with
  | nil => exact SameDesk.endsTold_nil ⟨rfl, rfl, rfl, rfl⟩
  | cons p rest ih => exact endsTold_cons p (ih (offerSessionEnded p u))

theorem foldl_offerSessionEnded_of_noControl (peers : List Byte) (h : u.noControl) :
    peers.foldl (fun s p => offerSessionEnded p s) u = u := by
  induction peers with
  | nil => rfl
  | cons p rest ih => rw [List.foldl_cons, offerSessionEnded_of_noControl p h, ih]

/-- R156: all the owed notices are offered. -/
theorem offerOwedNotices_told (u : State) : endsTold u (offerOwedNotices u) u.expired :=
  (owed_sameDesk _ []).endsTold_right (foldl_offerSessionEnded_told u.expired u)

theorem offerOwedNotices_of_noControl (h : u.noControl) : offerOwedNotices u = { u with expired := [] } := by
  rw [offerOwedNotices, foldl_offerSessionEnded_of_noControl u.expired h]

/-- A CLOSED entry is told nothing (R143, R156). -/
theorem offerSessionEnded_session_of_closed (p : Byte) (h : (u.session e).isOpen = false) :
    (offerSessionEnded p u).session e = u.session e := by
  unfold offerSessionEnded
  split
  · next c _ =>
    by_cases hopen : (u.session c).isOpen = true
    · have hne : e ≠ c := fun hec => by simp [hec, hopen] at h
      obtain ⟨hroom, hfull⟩ := offerNotice_offered c (sessionEndedPayload p) u hopen
      by_cases hr : u.hasReplyRoom
      · rcases hroom hr with ⟨-, hs, -⟩ | ⟨-, ⟨-, -, hothers⟩, -⟩
        · exact session_congr _ _ hs e
        · exact hothers e hne
      · obtain ⟨⟨-, -, hothers⟩, -⟩ := hfull hr
        exact hothers e hne
    · rw [offerNotice, if_neg hopen]
  · rfl

theorem offerSessionEnded_keeps_closed (p : Byte) (h : u.session e = closedEntry) :
    (offerSessionEnded p u).session e = closedEntry :=
  (offerSessionEnded_session_of_closed p (by rw [h]; rfl)).trans h

theorem offerSome_keeps_closed (peers : List Byte) (h : u.session e = closedEntry) :
    (offerSome peers u).session e = closedEntry :=
  offerSome_rule (J := fun v => v.session e = closedEntry) (fun _ hv => hv)
    (fun p _ hv => offerSessionEnded_keeps_closed p hv) (fun _ _ hv => hv) peers h

theorem offerOwedNotices_keeps_closed (h : u.session e = closedEntry) :
    (offerOwedNotices u).session e = closedEntry := by
  have hfold : ∀ (peers : List Byte) (v : State), v.session e = closedEntry →
      (peers.foldl (fun s p => offerSessionEnded p s) v).session e = closedEntry := by
    intro peers
    induction peers with
    | nil => exact fun _ hv => hv
    | cons p rest ih => exact fun v hv => ih _ (offerSessionEnded_keeps_closed p hv)
  exact hfold u.expired u h

end Ends

/-! ### The entries at their limit (R155) -/

section Expiry

variable {s : State} {e : Fin 4}

/-- R155: the entry is OPEN and its idle count has reached its limit. -/
def State.atLimit (s : State) (a : Fin 4) : Prop := (s.session a).isOpen = true ∧ (s.session a).idle = (s.session a).limit

theorem mem_expiringEntries {a : Fin 4} : a ∈ s.expiringEntries ↔ s.atLimit a := by
  simp [State.expiringEntries, mem_allEntries, Session.expiring, State.atLimit]

theorem expiringEntries_eq_nil (h : ∀ a, ¬ s.atLimit a) : s.expiringEntries = [] :=
  List.eq_nil_iff_forall_not_mem.2 fun a ha => h a (mem_expiringEntries.1 ha)

theorem expiringEntries_sorted (s : State) : s.expiringEntries.Pairwise (· < ·) := by
  have hsorted : allEntries.Pairwise (· < ·) := by decide
  exact hsorted.filter _

/-- The lowest entry at its limit heads the list; behind it stand the others, all higher. -/
theorem expiringEntries_of_lowest (hdue : s.atLimit e) (hlow : ∀ a, a < e → ¬ s.atLimit a) :
    ∃ rest, s.expiringEntries = e :: rest ∧ ∀ a, a ∈ rest ↔ e < a ∧ s.atLimit a := by
  have hmem : e ∈ s.expiringEntries := mem_expiringEntries.2 hdue
  have hsorted := expiringEntries_sorted s
  cases hlist : s.expiringEntries with
  | nil =>
    rw [hlist] at hmem
    cases hmem
  | cons first rest =>
    rw [hlist] at hmem hsorted
    have hfirst : s.atLimit first := mem_expiringEntries.1 (hlist ▸ List.mem_cons_self)
    obtain ⟨habove, -⟩ := List.pairwise_cons.1 hsorted
    obtain rfl : first = e := by
      rcases List.mem_cons.1 hmem with heq | hrest
      · exact heq.symm
      · exact absurd hfirst (hlow first (habove e hrest))
    refine ⟨rest, rfl, fun a => ⟨fun ha => ⟨habove a ha, mem_expiringEntries.1 (hlist ▸ List.mem_cons_of_mem _ ha)⟩, ?_⟩⟩
    rintro ⟨hlt, ha⟩
    have hin : a ∈ first :: rest := hlist ▸ mem_expiringEntries.2 ha
    exact (List.mem_cons.1 hin).resolve_left (ne_of_gt hlt)

/-- The only entry at its limit is the whole list. -/
theorem expiringEntries_of_only (hdue : s.atLimit e) (honly : ∀ a, a ≠ e → ¬ s.atLimit a) : s.expiringEntries = [e] := by
  obtain ⟨rest, hlist, hrest⟩ := expiringEntries_of_lowest hdue fun a ha => honly a (ne_of_lt ha)
  have hnil : rest = [] := List.eq_nil_iff_forall_not_mem.2 fun a ha =>
    have ⟨hlt, hlimit⟩ := (hrest a).1 ha
    honly a (ne_of_gt hlt) hlimit
  rw [hlist, hnil]

/-! ### The row of SESSION_EXPIRY (R12, R155) -/

/-- R12: the state an end falls in: stages begun are finished first. -/
def State.stagesTaken (s : State) : State :=
  match s.scene.stage with
  | .commitDue _ => finishScene s
  | _ => s

theorem stagesTaken_of_begun {advanced : Bool} (h : s.scene.stage = .commitDue advanced) :
    s.stagesTaken = finishScene s := by
  simp only [State.stagesTaken, h]

theorem stagesTaken_of_not_begun (h : s.scene.stage = .settled ∨ s.scene.stage = .teardownDue) : s.stagesTaken = s := by
  rcases h with h | h <;> simp only [State.stagesTaken, h]

theorem sessionExpiry_of_none (h : s.expiringEntries = []) : sessionExpiry s = s := by
  rw [sessionExpiry, h]

theorem sessionExpiry_of_more {rest : List (Fin 4)} (h : s.expiringEntries = e :: rest) (hmore : rest ≠ []) :
    sessionExpiry s = expireEntry e s.stagesTaken := by
  have hnot : ¬ rest.isEmpty = true := fun hempty => hmore (List.isEmpty_iff.1 hempty)
  rw [sessionExpiry, h]
  exact if_neg hnot

theorem sessionExpiry_of_last (h : s.expiringEntries = [e]) :
    sessionExpiry s = if (expireEntry e s.stagesTaken).scene.stage = .settled
      then offerOwedNotices (expireEntry e s.stagesTaken)
      else offerSome (expireEntry e s.stagesTaken).expired (expireEntry e s.stagesTaken) := by
  rw [sessionExpiry, h]
  exact if_pos rfl

theorem exec_sessionExpiry (s : State) : exec .sessionExpiry s = .next (sessionExpiry s.quiet) := rfl

/-- The row sees the table and the state behind the stages alone. -/
theorem sessionExpiry_congr {w : State} (hdue : w.expiringEntries = s.expiringEntries)
    (hnext : w.stagesTaken = s.stagesTaken) (hsome : s.expiringEntries ≠ []) : sessionExpiry w = sessionExpiry s := by
  cases hlist : s.expiringEntries with
  | nil => exact absurd hlist hsome
  | cons e rest =>
    by_cases hrest : rest = []
    · subst hrest
      rw [sessionExpiry_of_last hlist, sessionExpiry_of_last (hdue.trans hlist), hnext]
    · rw [sessionExpiry_of_more hlist hrest, sessionExpiry_of_more (hdue.trans hlist) hrest, hnext]

end Expiry

/-- Settles O32: the list of entries at their limit says whether the row is idle, ends one of several, or ends the last, and
the notices told are counted one offer at a time. -/
theorem expiredSessionsEndInOrder : Obligations.ExpiredSessionsEndInOrder := by
  intro s e
  dsimp only
  rw [exec_sessionExpiry]
  have hended : SameDesk (endSession e s.quiet) (expireEntry e s.quiet) := ⟨rfl, rfl, rfl, rfl⟩
  have hclosed : (expireEntry e s.quiet).session e = closedEntry := endSession_session_same ..
  refine ⟨fun hnone => ?none, fun hdue hlow hmore hstage => ?more, fun hdue honly hstage => ?teardownDue,
    fun hdue honly hstage => ?settled, fun advanced w hdue hstage hcommit => ?begun⟩
  case none => rw [sessionExpiry_of_none (expiringEntries_eq_nil (s := s.quiet) hnone)]
  case more =>
    obtain ⟨rest, hlist, hrest⟩ := expiringEntries_of_lowest (s := s.quiet) hdue hlow
    obtain ⟨a, ha⟩ := hmore
    have hne : rest ≠ [] := List.ne_nil_of_mem ((hrest a).2 ha)
    rw [sessionExpiry_of_more hlist hne, stagesTaken_of_not_begun (s := s.quiet) hstage]
    rfl
  case teardownDue =>
    have hlist := expiringEntries_of_only (s := s.quiet) hdue honly
    have hnot : ¬ (expireEntry e s.quiet).scene.stage = .settled := fun h => nomatch hstage.symm.trans h
    rw [sessionExpiry_of_last hlist, stagesTaken_of_not_begun (s := s.quiet) (.inr hstage), if_neg hnot]
    obtain ⟨n, howed, htold⟩ := offerSome_told (expireEntry e s.quiet).expired (expireEntry e s.quiet)
    obtain ⟨-, -, hscene, hcells, -, hcommands, -, -, hcomp, -⟩ :=
      offerSome_frame (expireEntry e s.quiet).expired (expireEntry e s.quiet)
    exact ⟨_, rfl, hscene, offerSome_keeps_closed _ hclosed, hcommands, hcomp, hcells, n, howed,
      hended.endsTold_left htold⟩
  case settled =>
    have hlist := expiringEntries_of_only (s := s.quiet) hdue honly
    have hsettled : (expireEntry e s.quiet).scene.stage = .settled := hstage
    rw [sessionExpiry_of_last hlist, stagesTaken_of_not_begun (s := s.quiet) (.inl hstage), if_pos hsettled]
    obtain ⟨-, -, hscene, hcells, -, hcommands, -, -, hcomp, -⟩ := offerOwedNotices_frame (expireEntry e s.quiet)
    refine ⟨_, rfl, hscene, offerOwedNotices_keeps_closed hclosed, hcommands, hcomp, hcells, rfl,
      hended.endsTold_left (offerOwedNotices_told _), fun hno => ?_⟩
    rw [offerOwedNotices_of_noControl (hended.noControl hno)]
    rfl
  case begun =>
    obtain rfl : finishScene s.quiet = w := Host.Outcome.next.inj ((exec_applyCommit s).symm.trans hcommit)
    have hquiet : (finishScene s.quiet).quiet = finishScene s.quiet := quiet_of_linkOut _ (by simp)
    have hnext : (finishScene s.quiet).stagesTaken = s.quiet.stagesTaken := by
      rw [stagesTaken_of_begun (s := s.quiet) hstage, stagesTaken_of_not_begun (.inl (finishScene_stage _))]
    have hsome : s.quiet.expiringEntries ≠ [] := List.ne_nil_of_mem (mem_expiringEntries (s := s.quiet).2 hdue)
    rw [exec_sessionExpiry, hquiet, sessionExpiry_congr (finishScene_expiringEntries _) hnext hsome]

end Sys2Proof.Machine

namespace Sys2Proof.Machine

/-! ### Properties that every row but those of the Command Engine keeps (R12, R137, R145 to R161) -/

/-- Between `s` and `t` the queues, the engine, the stores and the unit address stand. -/
structure CoreKept (s t : State) : Prop where
  commands : t.commandQueue = s.commandQueue
  replies : t.replyQueue = s.replyQueue
  engine : t.engine = s.engine
  cells : t.cells = s.cells
  glyphs : t.glyphs = s.glyphs
  unit : t.unitAddress = s.unitAddress

theorem CoreKept.of_frame {s t : State} (commands : t.commandQueue = s.commandQueue := by rfl)
    (replies : t.replyQueue = s.replyQueue := by rfl) (engine : t.engine = s.engine := by rfl)
    (cells : t.cells = s.cells := by rfl) (glyphs : t.glyphs = s.glyphs := by rfl)
    (unit : t.unitAddress = s.unitAddress := by rfl) : CoreKept s t :=
  ⟨commands, replies, engine, cells, glyphs, unit⟩

/-- A property of the queues, the engine, the stores and the unit address that each way of moving them keeps, beside the
engine's own: the engine's claim on the last Reply Queue entry (R161), a packet that joins the Command Queue (R146, R150), an
entry that joins the Reply Queue (R162), the end of a session (R157), and the close of a gap (R135). -/
structure Stable (J : State → Prop) : Prop where
  kept : ∀ {u v : State}, CoreKept u v → J u → J v
  contest : ∀ {u : State}, J u → J (contestEntry u)
  queued : ∀ {u : State} (p : Packet), u.commandQueue.length < 4 → J u → J (u.joinCommands p)
  answered : ∀ {u : State} (o : Outgoing), u.replyRoom = true → J u → J (u.joinReplies o)
  ended : ∀ {u : State} (e : Fin 4), J u → J (endSession e u)
  sent : ∀ {u : State}, J u → J (closeGap u)

/-- Reply Queue entries that the engine holds reserved (R161, R162). -/
def Engine.reserves : Engine → Nat
  | .executing x => if x.packet.session.isSome then 1 else 0
  | .reserved => 1
  | _ => 0

theorem reservations_eq (s : State) : s.reservations = s.engine.reserves := rfl

@[simp] theorem nextHead_reserves (q : List Packet) : (nextHead q).reserves = 0 := by
  rw [nextHead_eq]
  split_ifs <;> rfl

section Stable

variable {J : State → Prop} {s : State} (hJ : Stable J)
include hJ

/-! ### Notices and what a frame start owes (R12, R155 to R159) -/

theorem Stable.offerNotice (e : Fin 4) (p : List Byte) (h : J s) : J (offerNotice e p s) := by
  have hcontested : J (contestEntry s) := hJ.contest h
  unfold Machine.offerNotice
  dsimp only
  split_ifs with _ hroom
  · exact hJ.answered _ hroom hcontested
  · exact hJ.kept .of_frame hcontested
  · exact h

theorem Stable.reportLockChange (h : J s) : J (reportLockChange s) := by
  unfold Machine.reportLockChange
  split
  · exact hJ.offerNotice _ _ h
  · exact h

theorem Stable.offerSessionEnded (p : Byte) (h : J s) : J (offerSessionEnded p s) := by
  unfold Machine.offerSessionEnded
  split
  · exact hJ.offerNotice _ _ h
  · exact h

theorem Stable.offerSome (owed : List Byte) (h : J s) : J (offerSome owed s) :=
  offerSome_rule (fun _ hu => hJ.kept .of_frame hu) (fun p _ hu => hJ.offerSessionEnded p hu)
    (fun _ _ hu => hJ.kept .of_frame hu) owed h

theorem Stable.offerOwedNotices (h : J s) : J (offerOwedNotices s) := by
  have hfold (owed : List Byte) (u : State) (hu : J u) : J (owed.foldl (fun s p => Machine.offerSessionEnded p s) u) := by
    induction owed generalizing u with
    | nil => exact hu
    | cons p rest ih => exact ih _ (hJ.offerSessionEnded p hu)
  exact hJ.kept (u := s.expired.foldl (fun s p => Machine.offerSessionEnded p s) s) .of_frame (hfold _ s h)

theorem Stable.expireEntry (e : Fin 4) (h : J s) : J (expireEntry e s) := hJ.ended e (hJ.kept (u := s) .of_frame h)

theorem Stable.teardownStage (h : J s) : J (teardownStage s) := hJ.kept (u := s) .of_frame h

theorem Stable.commitStage (advanced : Bool) (h : J s) : J (commitStage advanced s) := by
  by_cases hdue : s.scene.commitIsDue
  · rw [commitStage_of_due advanced s hdue]
    split
    · exact hJ.kept (u := s) .of_frame h
    · exact hJ.offerNotice _ _ (hJ.kept (u := s) .of_frame h)
  · rw [commitStage_of_not_due advanced s hdue]
    exact hJ.kept (u := s) .of_frame h

theorem Stable.finishScene (h : J s) : J (finishScene s) :=
  finishScene_rule (fun _ hu => hJ.teardownStage hu) (fun b _ hu => hJ.commitStage b hu) h

theorem Stable.blinkCompare (h : J s) : J (blinkCompare s) :=
  hJ.kept (.of_frame (by simp) (by simp) (by simp) (by simp) (by simp) (by simp)) h

theorem Stable.endsBeforeStore (h : J s) : J (endsBeforeStore s) := by
  unfold Machine.endsBeforeStore
  split
  · exact h
  · exact endSome_rule (fun _ hu => hJ.kept .of_frame hu) _ (fun e _ _ hu => hJ.expireEntry e hu) h

theorem Stable.endExpired (h : J s) : J (endExpired s) :=
  foldl_expireEntry_rule _ (fun e _ _ hu => hJ.expireEntry e hu) h

theorem Stable.settle (h : J s) : J s.settle := by
  have hfirst : J (Machine.endsBeforeStore s) := hJ.endsBeforeStore h
  unfold State.settle
  refine hJ.blinkCompare ?_
  dsimp only
  split_ifs
  · exact hJ.offerOwedNotices (hJ.finishScene (hJ.offerSome _ hfirst))
  · exact hJ.offerOwedNotices (hJ.endExpired (hJ.finishScene hfirst))
  · exact hJ.finishScene h

theorem Stable.ready (h : J s) : J s.ready := hJ.settle (hJ.kept (u := s) .of_frame h)

theorem Stable.settleSome (h : J s) : J (settleSome s) :=
  settleSome_rule (fun _ hu => hJ.kept .of_frame hu) (fun p _ hu => hJ.offerSessionEnded p hu)
    (fun _ _ hu => hJ.kept .of_frame hu) (fun _ hu => hJ.teardownStage hu) (fun b _ hu => hJ.commitStage b hu)
    (fun _ _ e _ _ hv => hJ.expireEntry e hv) h

theorem Stable.sessionExpiry (h : J s) : J (sessionExpiry s) := by
  cases hdue : s.expiringEntries with
  | nil => rwa [sessionExpiry_of_none hdue]
  | cons e rest =>
    have htaken : J s.stagesTaken := by
      unfold State.stagesTaken
      split
      · exact hJ.finishScene h
      · exact h
    have hended : J (Machine.expireEntry e s.stagesTaken) := hJ.expireEntry e htaken
    by_cases hmore : rest = []
    · subst hmore
      rw [sessionExpiry_of_last hdue]
      split_ifs
      · exact hJ.offerOwedNotices hended
      · exact hJ.offerSome _ hended
    · rwa [sessionExpiry_of_more hdue hmore]

/-! ### The input stream and the output (R117 to R141) -/

theorem Stable.putSymbol (sym : Symbol) (h : J s) : J (putSymbol sym s) :=
  hJ.kept (.of_frame (by simp) (by simp) (by simp) (by simp) (by simp) (by simp)) h

theorem Stable.composePixel (x y : Nat) (original : RGB) (h : J s) : J (composePixel x y original s).2 := by
  refine hJ.kept (.of_frame ?_ ?_ ?_ ?_ ?_ ?_) h <;> simp [Machine.composePixel]

theorem Stable.withLink {rx : Receiver} {comp : Compositor} {mode : OutputMode} (h : J s) : J (s.withLink rx comp mode) :=
  hJ.kept .of_frame h

/-- A symbol moves the link, reports a change of lock, or begins a composited frame. -/
theorem Stable.receiveSymbol (sym : Symbol) (h : J s) : J (receiveSymbol sym s) := by
  by_cases hlock : s.rx.lock = .locked
  · rcases receiveSymbol_cases_of_locked sym hlock with
      ⟨-, rx, comp, heq, -⟩ | ⟨-, g, rx, comp, heq⟩ | ⟨-, rx, rx', -, heq⟩ <;> rw [heq]
    · exact hJ.withLink h
    · exact hJ.kept (u := s.withLink rx comp s.tx.mode) .of_frame (hJ.withLink h)
    · exact hJ.withLink (hJ.reportLockChange (hJ.withLink h))
  · rcases receiveSymbol_cases_of_not_locked sym hlock with ⟨rx, heq, -⟩ | ⟨-, rx, heq⟩ <;> rw [heq]
    · exact hJ.withLink h
    · exact hJ.reportLockChange (hJ.withLink h)

theorem Stable.orderedClose {act : State → State} (hact : ∀ u, J u → J (act u)) (h : J s) : J (orderedClose act s) := by
  have hdrawn : J s.draw.2 := hJ.kept .of_frame h
  unfold Machine.orderedClose
  dsimp only
  split
  · split_ifs
    · exact hJ.sent (hJ.settleSome (hact _ hdrawn))
    · exact hact _ (hJ.sent hdrawn)
    · exact hact _ (hJ.sent h)
  · exact hact s h

theorem Stable.passSymbol (before : FramePos) (sym : Symbol) (h : J s) : J (passSymbol before sym s) := by
  unfold Machine.passSymbol
  split
  · split
    · exact hJ.putSymbol _ (hJ.composePixel _ _ _ h)
    · exact hJ.putSymbol _ h
  · exact hJ.putSymbol _ h

theorem Stable.inputSymbol (sym : Symbol) (h : J s) : J (inputSymbol sym s) := by
  have hready : J s.ready := hJ.ready h
  have hreceived : J (Machine.receiveSymbol sym s.ready) := hJ.receiveSymbol sym hready
  unfold Machine.inputSymbol
  dsimp only
  split
  · exact hJ.kept .of_frame hready
  · exact hreceived
  · split_ifs
    · exact hJ.putSymbol _ (hJ.kept .of_frame hreceived)
    · exact hreceived
  · exact hJ.passSymbol _ _ (hJ.orderedClose (fun _ hu => hJ.receiveSymbol sym hu) hready)

theorem Stable.endLineAndFrame (h : J s) : J (endLineAndFrame s) := by
  have hput (sym : Symbol) {u : State} (hu : J u) : J (Machine.putSymbol sym (closeGap u)) :=
    hJ.putSymbol sym (hJ.sent hu)
  unfold Machine.endLineAndFrame
  dsimp only
  split_ifs
  · exact hput .fe (hput .le h)
  · exact hput .le h
  · exact hput .fe h
  · exact h

/-- R138: the notice of the change joins before, between or after the two gaps. -/
theorem Stable.endInterruptedFrame (h : J s) : J (endInterruptedFrame Machine.reportLockChange s) := by
  have hdrawn {u : State} (hu : J u) : J u.draw.2 := hJ.kept .of_frame hu
  unfold Machine.endInterruptedFrame
  dsimp only
  split_ifs
  · exact hJ.sent (hJ.endLineAndFrame (hJ.reportLockChange (hdrawn h)))
  · exact hJ.sent (hJ.reportLockChange (hdrawn (hJ.endLineAndFrame (hdrawn h))))
  · exact hJ.reportLockChange (hJ.sent (hdrawn (hJ.endLineAndFrame (hdrawn h))))

theorem Stable.expireWatchdog (h : J s) : J (expireWatchdog s) := by
  unfold Machine.expireWatchdog
  dsimp only
  split
  · split_ifs
    · refine hJ.kept (u := Machine.endInterruptedFrame Machine.reportLockChange (loseLock .holdover .generate _))
        .of_frame (hJ.endInterruptedFrame ?_)
      exact hJ.kept (u := s) .of_frame h
    · exact hJ.reportLockChange (hJ.kept (u := s) .of_frame h)
  all_goals exact hJ.kept (u := s) .of_frame h

theorem Stable.enterLocked (g : Geometry) (judged : Bool) (mode : OutputMode) (h : J s) :
    J (enterLocked g judged mode s) := hJ.reportLockChange (hJ.kept (u := s) .of_frame h)

theorem Stable.generateSymbol (g : Geometry) (pos : GenPos) (period : Nat) (h : J s) :
    J (generateSymbol g pos period s) := by
  have hput (sym : Symbol) : J (Machine.putSymbol sym (closeGap s)) := hJ.putSymbol sym (hJ.sent h)
  cases pos with
  | start => exact h
  | ended => exact h
  | line k =>
    unfold Machine.generateSymbol
    dsimp only
    split_ifs <;> exact hJ.kept .of_frame (hput (.ls k))
  | pixel k x =>
    refine hJ.kept (u := generatedPixel g k x (closeGap s)) .of_frame ?_
    unfold generatedPixel
    split_ifs
    · exact hJ.putSymbol _ (hJ.composePixel _ _ _ (hJ.sent h))
    · exact hput _
  | lineEnd k => exact hJ.kept .of_frame (hput .le)
  | frameEnd => exact hJ.kept .of_frame (hput .fe)

theorem Stable.beginGeneratedFrame (g : Geometry) (h : J s) : J (beginGeneratedFrame g s) :=
  hJ.putSymbol .fs (hJ.orderedClose (fun u hu => hJ.kept (u := u) .of_frame hu) (hJ.kept (u := s) .of_frame h))

theorem Stable.discardOverfull (h : J s) : J (discardOverfull s) := by
  have herror : J (framingError s) := by
    cases hrun : s.rx.run with
    | false => rw [framingError_of_run_clear hrun]; exact hJ.kept (u := s) .of_frame h
    | true => rw [framingError_of_run_set hrun]; exact hJ.reportLockChange (hJ.kept (u := s) .of_frame h)
  unfold Machine.discardOverfull
  split
  · split_ifs
    · exact herror
    · exact h
  · exact hJ.kept .of_frame h
  · split
    · exact h
    · exact hJ.kept .of_frame h
  · exact h
  · exact h

/-! ### The arrival of a packet (R145 to R153) -/

omit hJ in
/-- R157: the end of a session releases a reservation and takes none. -/
theorem endSession_reservations (e : Fin 4) (s : State) : (endSession e s).reservations ≤ s.reservations := by
  rw [reservations_eq, reservations_eq, endSession_engine]
  cases s.engine with
  | idle | testing => simp
  | reserved | waiting | executing x =>
    dsimp only
    split_ifs <;> simp

omit hJ in
theorem endSession_replyRoom (e : Fin 4) (h : s.replyRoom = true) : (endSession e s).replyRoom = true := by
  have hreserved := endSession_reservations e s
  have hroom : s.replyQueue.length + s.reservations < 8 := replyRoom_eq_true.1 h
  have hqueue : (endSession e s).replyQueue = s.replyQueue := by simp
  refine replyRoom_eq_true.2 ?_
  unfold State.hasReplyRoom
  rw [hqueue]
  omega

theorem Stable.setSession (e : Fin 4) (v : Session) (h : J s) : J (s.setSession e v) := hJ.kept .of_frame h

theorem Stable.openEntry (source : Byte) (role : Role) (limit : Nat) (hroom : s.replyRoom = true) (h : J s) :
    J (openEntry source role limit s) := by
  unfold Machine.openEntry
  split_ifs
  · exact hJ.answered _ hroom h
  · exact hJ.answered _ hroom h
  · split
    · exact hJ.answered _ hroom (hJ.setSession _ _ h)
    · exact h

theorem Stable.openSession (source : Byte) (role : Role) (limit : Nat) (h : J s) :
    J (openSession source role limit s) := by
  rw [openSession_eq]
  split_ifs with hroom
  · unfold State.reopened
    split
    · next e _ => exact hJ.openEntry source role limit (endSession_replyRoom e hroom) (hJ.ended e h)
    · exact hJ.openEntry source role limit hroom h
  · exact h

theorem Stable.refuseOpen (source : Byte) (h : J s) : J (refuseOpen source s) := by
  unfold Machine.refuseOpen
  dsimp only
  split_ifs with hroom
  · split
    · exact hJ.answered _ hroom (hJ.setSession _ _ h)
    · exact hJ.answered _ hroom h
  · exact h

theorem Stable.admitSequenced (e : Fin 4) (seq : Byte) (payload : List Byte) (h : J s) :
    J (admitSequenced e seq payload s) := by
  have hidle : J (resetIdle e s) := hJ.setSession e _ h
  unfold Machine.admitSequenced
  dsimp only
  generalize resetIdle e s = u at hidle ⊢
  split_ifs
  · unfold admitNext
    split_ifs with hroom
    · exact hJ.setSession _ _ (hJ.queued _ hroom hidle)
    · exact hJ.setSession _ _ hidle
  · unfold admitDuplicate
    split
    · exact hidle
    · split
      · split_ifs with hroom
        · exact hJ.answered _ hroom hidle
        · exact hidle
      · exact hidle
  · unfold answerOutOfSequence
    split_ifs with hroom
    · exact hJ.answered _ hroom (hJ.setSession _ _ hidle)
    · exact hidle

theorem Stable.admitUnicast (source seq : Byte) (payload : List Byte) (h : J s) :
    J (admitUnicast source seq payload s) := by
  unfold Machine.admitUnicast
  split
  · split
    · split
      · exact hJ.openSession source _ _ h
      · exact hJ.refuseOpen source h
    · split
      · exact hJ.admitSequenced _ seq payload h
      · split_ifs with hroom
        · exact hJ.answered _ hroom h
        · exact h
  · exact h

theorem Stable.separate (run : List Byte) (kind dest source seq : Byte) (payload : List Byte) (h : J s) :
    J (separate run kind dest source seq payload s) := by
  have hforwarded : J (forwardIfOutput run s) := by
    unfold forwardIfOutput
    split_ifs
    · exact hJ.kept .of_frame h
    · exact h
  unfold Machine.separate
  split_ifs
  · exact hJ.admitUnicast source seq payload h
  · unfold admitBroadcast
    split_ifs with hroom
    · exact hJ.queued _ hroom hforwarded
    · exact hforwarded
  · exact hforwarded

theorem Stable.receivePacket (run : List Byte) (h : J s) : J (receivePacket run s) := by
  have hcounted : J { s with rx := { s.rx with gapPackets := s.rx.gapPackets + 1 } } := hJ.kept .of_frame h
  unfold Machine.receivePacket
  dsimp only
  split_ifs
  · exact hJ.discardOverfull h
  · split
    · exact hJ.discardOverfull hcounted
    · exact hJ.kept .of_frame hcounted
    · exact hJ.separate _ _ _ _ _ _ hcounted

end Stable

/-! ### Every row but those of the Command Engine and of the resets -/

/-- The rows of the link, of its watchdog and generator, and of the stages of a frame start (95). -/
def besideEngine : Instr → Bool
  | .frameStart | .lineStart _ | .pixel _ | .lineEnd | .frameEnd | .packetReceived _ | .watchdogExpiry
  | .generatedFrameStart | .generatedSymbol | .relockSwitch | .applyTeardown | .applyCommit | .blinkToggle
  | .sessionExpiry => true
  | _ => false

theorem Stable.exec {J : State → Prop} (hJ : Stable J) {c : Instr} {s t : State} (hc : besideEngine c = true)
    (hexec : exec c s = .next t) (h : J s) : J t := by
  have hready : J s.ready := hJ.ready h
  have hquiet : J s.quiet := hJ.kept .of_frame h
  cases c <;> cases hexec
  case frameStart | lineStart | pixel | lineEnd | frameEnd => exact hJ.inputSymbol _ h
  case packetReceived run =>
    split
    · exact hJ.kept .of_frame hready
    · exact hJ.receivePacket run hready
  case watchdogExpiry =>
    split_ifs
    · exact hJ.expireWatchdog hready
    · exact hready
  case generatedFrameStart =>
    split
    · exact hJ.beginGeneratedFrame _ hready
    · split
      · exact hJ.beginGeneratedFrame _ hready
      · exact hready
    · exact hready
  case generatedSymbol =>
    split
    · exact hJ.generateSymbol _ _ _ hready
    · exact hready
  case relockSwitch =>
    split
    · exact hJ.enterLocked _ _ _ (hJ.kept .of_frame (hJ.sent hready))
    · exact hready
  case applyTeardown =>
    split_ifs
    · exact hJ.teardownStage hquiet
    · exact hquiet
  case applyCommit => exact hJ.finishScene hquiet
  case blinkToggle => exact hJ.blinkCompare (hJ.finishScene hquiet)
  case sessionExpiry => exact hJ.sessionExpiry hquiet
  all_goals cases hc

end Sys2Proof.Machine

namespace Sys2Proof.Machine

/-! ### The law of the queues, the engine and the stores (R46, R65, R161, R162) -/

/-- R162, R161, R46, R65 together. -/
def QueuesLaw (s : State) : Prop := QueueBounds s ∧ EngineLaw s ∧ StoresCanonical s ∧ LongInRange s

/-- A long command names a bank and a code that exist (R71). -/
def LongCommand.inRange : LongCommand → Prop
  | .clearBank bank done => bank ≤ 7 ∧ done ≤ 255
  | _ => True

/-- R161: an engine that may stand before this Command Queue, its long command in range. -/
def Engine.fits (q : List Packet) : Engine → Prop
  | .idle => q = []
  | .testing => q ≠ []
  | .reserved => ∃ p, q.head? = some p ∧ p.session ≠ none
  | .waiting => q ≠ []
  | .executing x => ∀ c, x.long = some c → c.inRange

theorem queuesLaw_iff (s : State) : QueuesLaw s ↔ s.commandQueue.length ≤ 4
    ∧ s.replyQueue.length + s.engine.reserves ≤ 8 ∧ s.engine.fits s.commandQueue ∧ StoresCanonical s := by
  have hfits : EngineLaw s ∧ LongInRange s ↔ s.engine.fits s.commandQueue := by
    unfold EngineLaw LongInRange Engine.fits
    cases s.engine with
    | executing x =>
      refine ⟨fun h c hc => ?_, fun h => ⟨trivial, fun y hy bank done hc => ?_⟩⟩
      · cases c with
        | clearBank bank done => exact h.2 x rfl bank done hc
        | _ => trivial
      · cases hy
        exact h _ hc
    | _ => simp
  unfold QueuesLaw QueueBounds
  rw [reservations_eq, ← hfits]
  tauto

theorem nextHead_fits (q : List Packet) : (nextHead q).fits q := by
  rw [nextHead_eq]
  split_ifs with h
  · exact h
  · exact h

section QueuesLaw

variable {s t : State} {e : Fin 4} {x : Executing}

theorem QueuesLaw.stores (h : QueuesLaw s) : StoresCanonical s := h.2.2.1

theorem QueuesLaw.commands (h : QueuesLaw s) : s.commandQueue.length ≤ 4 := h.1.1

theorem QueuesLaw.replies (h : QueuesLaw s) : s.replyQueue.length ≤ 8 :=
  (Nat.le_add_right _ _).trans ((queuesLaw_iff s).1 h).2.1

/-- R162: the reply of a session packet in execution has its entry. -/
theorem QueuesLaw.room_of_reserved (h : QueuesLaw s) (hs : s.engine.reserves = 1) : s.replyQueue.length < 8 := by
  have hbound := ((queuesLaw_iff s).1 h).2.1
  omega

theorem reserves_of_session (hs : s.engine = .executing x) (hx : x.packet.session = some e) : s.engine.reserves = 1 := by
  simp [hs, Engine.reserves, hx]

theorem QueuesLaw.long_inRange (h : QueuesLaw s) (hs : s.engine = .executing x) {c : LongCommand}
    (hc : x.long = some c) : c.inRange := by
  have hfits := ((queuesLaw_iff s).1 h).2.2.1
  rw [hs] at hfits
  exact hfits c hc

/-- The engine lets go of its packet, and tests the next head. -/
theorem queuesLaw_of_nextHead (hcommands : t.commandQueue.length ≤ 4) (hreplies : t.replyQueue.length ≤ 8)
    (hstores : StoresCanonical t) (hengine : t.engine = nextHead t.commandQueue) : QueuesLaw t := by
  refine (queuesLaw_iff t).2 ⟨hcommands, ?_, ?_, hstores⟩
  · rw [hengine, nextHead_reserves]
    exact hreplies
  · rw [hengine]
    exact nextHead_fits _

/-- The engine takes a packet, or goes on with one: of a session, with a Reply Queue entry for it, or a broadcast. -/
theorem queuesLaw_of_executing (hcommands : s.commandQueue.length ≤ 4)
    (hreplies : s.replyQueue.length < 8 ∨ x.packet.session = none ∧ s.replyQueue.length ≤ 8)
    (hstores : StoresCanonical s) (hlong : ∀ c, x.long = some c → c.inRange) :
    QueuesLaw { s with engine := .executing x } := by
  refine (queuesLaw_iff _).2 ⟨hcommands, ?_, hlong, hstores⟩
  have hreserves : (Engine.executing x).reserves ≤ 1 := by
    unfold Engine.reserves
    dsimp only
    split_ifs <;> simp
  rcases hreplies with hroom | ⟨hnone, hfull⟩
  · dsimp only
    omega
  · simpa [Engine.reserves, hnone] using hfull

/-! ### The law beside the engine -/

theorem CoreKept.queuesLaw (g : CoreKept s t) (h : QueuesLaw s) : QueuesLaw t := by
  rw [queuesLaw_iff] at h ⊢
  unfold StoresCanonical at h ⊢
  rwa [g.commands, g.replies, g.engine, g.cells, g.glyphs]

/-- R161: the entry that the engine reserves against a notice is for the session packet at the head. -/
theorem contestEntry_queuesLaw (h : QueuesLaw s) : QueuesLaw (contestEntry s) := by
  have hbound := contestEntry_bound s h.1.2
  rcases contestEntry_cases s with ⟨-, heq⟩ | ⟨⟨⟨-, p, rest, hqueue, hp⟩, -⟩, heq | heq⟩ <;> rw [heq] at hbound ⊢
  · exact h
  · exact CoreKept.queuesLaw .of_frame h
  · exact (queuesLaw_iff _).2 ⟨h.commands, hbound, ⟨p, by simp [hqueue], hp⟩, h.stores⟩

theorem joinCommands_queuesLaw (p : Packet) (hroom : s.commandQueue.length < 4) (h : QueuesLaw s) :
    QueuesLaw (s.joinCommands p) := by
  obtain ⟨-, hreplies, hfits, hstores⟩ := (queuesLaw_iff s).1 h
  rw [joinCommands_eq]
  refine (queuesLaw_iff _).2 ⟨?_, ?_, ?_, hstores⟩
  · simpa using hroom
  · dsimp only
    split_ifs with hidle
    · rw [hidle] at hreplies
      exact hreplies
    · exact hreplies
  · dsimp only
    cases hs : s.engine with
    | reserved =>
      rw [hs] at hfits
      obtain ⟨first, hfirst, hsession⟩ := hfits
      exact ⟨first, by simp [hfirst], hsession⟩
    | executing x =>
      rw [hs] at hfits
      exact hfits
    | idle | testing | waiting => simp [Engine.fits]

theorem joinReplies_queuesLaw (o : Outgoing) (hroom : s.replyRoom = true) (h : QueuesLaw s) :
    QueuesLaw (s.joinReplies o) := by
  obtain ⟨hcommands, -, hfits, hstores⟩ := (queuesLaw_iff s).1 h
  have hfree : s.replyQueue.length + s.engine.reserves < 8 := replyRoom_eq_true.1 hroom
  refine (queuesLaw_iff _).2 ⟨hcommands, ?_, hfits, hstores⟩
  simp only [joinReplies_replyQueue, joinReplies_engine, List.length_append, List.length_singleton]
  omega

/-- R157: the engine that drops the packets of an ended session tests the next head, and one that held an entry or waited
for another head goes on so. -/
theorem endSession_fits (h : s.engine.fits s.commandQueue) :
    (endSession e s).engine.fits (endSession e s).commandQueue := by
  rw [endSession_engine]
  cases hs : s.engine <;> rw [hs] at h
  case idle =>
    have hempty : s.commandQueue = [] := h
    simp [Engine.fits, hempty]
  case testing => exact nextHead_fits _
  case reserved =>
    dsimp only
    split_ifs with hhead
    · obtain ⟨p, hp, hsession⟩ := h
      exact ⟨p, hhead.trans hp, hsession⟩
    · exact nextHead_fits _
  case waiting =>
    have hsome : s.commandQueue ≠ [] := h
    dsimp only
    split_ifs with hhead
    · intro hempty
      rw [hempty] at hhead
      exact hsome (List.head?_eq_none_iff.1 hhead.symm)
    · exact nextHead_fits _
  case executing x =>
    dsimp only
    split_ifs
    · exact nextHead_fits _
    · exact h

theorem endSession_queuesLaw (e : Fin 4) (h : QueuesLaw s) : QueuesLaw (endSession e s) := by
  obtain ⟨hcommands, hreplies, hfits, hstores⟩ := (queuesLaw_iff s).1 h
  refine (queuesLaw_iff _).2 ⟨?_, ?_, endSession_fits hfits, hstores⟩
  · rw [endSession_commandQueue]
    exact (List.length_filter_le _ _).trans hcommands
  · have hreserved : (endSession e s).engine.reserves ≤ s.engine.reserves := endSession_reservations e s
    have hqueue : (endSession e s).replyQueue = s.replyQueue := by simp
    rw [hqueue]
    omega

/-- R161: an engine that waited tests again once an entry has left. -/
theorem wakeEngine_queuesLaw (h : QueuesLaw s) : QueuesLaw (wakeEngine s) := by
  obtain ⟨hcommands, hreplies, hfits, hstores⟩ := (queuesLaw_iff s).1 h
  unfold wakeEngine
  split
  · next hwaiting =>
    rw [hwaiting] at hreplies hfits
    exact (queuesLaw_iff _).2 ⟨hcommands, hreplies, hfits, hstores⟩
  · exact h

theorem closeGap_queuesLaw (h : QueuesLaw s) : QueuesLaw (closeGap s) := by
  obtain ⟨hcommands, hreplies, hfits, hstores⟩ := (queuesLaw_iff s).1 h
  unfold closeGap
  dsimp only
  split
  · exact h
  · next g _ =>
    have htaken (tx : Transmitter) (linkOut : List Symbol) : QueuesLaw { s with
        tx := tx, replyQueue := s.replyQueue.drop (gapRoom g), linkOut := linkOut } := by
      refine (queuesLaw_iff _).2 ⟨hcommands, ?_, hfits, hstores⟩
      have hdropped : (s.replyQueue.drop (gapRoom g)).length ≤ s.replyQueue.length := by simp
      exact (Nat.add_le_add_right hdropped _).trans hreplies
    split_ifs
    · exact htaken _ _
    · exact wakeEngine_queuesLaw (htaken _ _)

theorem queuesLaw_stable : Stable QueuesLaw where
  kept := CoreKept.queuesLaw
  contest := contestEntry_queuesLaw
  queued := joinCommands_queuesLaw
  answered := joinReplies_queuesLaw
  ended := endSession_queuesLaw
  sent := closeGap_queuesLaw

/-! ### The law where the engine takes a packet, goes on with it and ends it (R161 to R167) -/

/-- R165: the reply takes the entry that was free or reserved for it. -/
theorem endPacket_queuesLaw (status : Status) (failed : Nat) (e : Fin 4) (x : Executing)
    (hcommands : s.commandQueue.length ≤ 4) (hroom : s.replyQueue.length < 8) (hstores : StoresCanonical s) :
    QueuesLaw (endPacket status failed e x s) :=
  queuesLaw_of_nextHead hcommands (by simpa [endPacket] using hroom) hstores rfl

theorem carryOn_queuesLaw (e : Fin 4) (hlong : x.long = none) (hcommands : s.commandQueue.length ≤ 4)
    (hroom : s.replyQueue.length < 8) (hstores : StoresCanonical s) : QueuesLaw (carryOn e x s) := by
  unfold carryOn
  split
  · exact endPacket_queuesLaw _ _ e x hcommands hroom hstores
  · split_ifs
    · exact queuesLaw_of_executing hcommands (.inl hroom) hstores (by simp [hlong])
    · exact endPacket_queuesLaw _ _ e x hcommands hroom hstores

theorem carryOnBroadcast_queuesLaw (hlong : x.long = none) (hx : x.packet.session = none)
    (hcommands : s.commandQueue.length ≤ 4) (hreplies : s.replyQueue.length ≤ 8) (hstores : StoresCanonical s) :
    QueuesLaw (carryOnBroadcast x s) := by
  have hhead : QueuesLaw { s with engine := nextHead s.commandQueue } :=
    queuesLaw_of_nextHead hcommands hreplies hstores rfl
  unfold carryOnBroadcast
  split
  · split_ifs
    · exact queuesLaw_of_executing hcommands (.inr ⟨hx, hreplies⟩) hstores (by simp [hlong])
    · exact hhead
  · exact hhead

/-- R161: a session packet is taken with a free entry, or with the one reserved for it. -/
theorem takeHead_queuesLaw (h : QueuesLaw s) : QueuesLaw (takeHead s) := by
  have hcommands := h.commands
  unfold takeHead
  split
  · next hempty =>
    refine queuesLaw_of_nextHead (t := { s with engine := .idle }) h.commands h.replies h.stores ?_
    simp [nextHead_eq, hempty]
  · next p rest hqueue =>
    have hrest : rest.length ≤ 4 := by
      rw [hqueue, List.length_cons] at hcommands
      omega
    split
    · next hp => exact carryOnBroadcast_queuesLaw (x := startPacket p) rfl hp hrest h.replies h.stores
    · next e hp =>
      split_ifs with hentry
      · have hroom : s.replyQueue.length < 8 := by
          rcases hentry with hreserved | hfree
          · exact h.room_of_reserved (by rw [hreserved]; rfl)
          · exact (Nat.le_add_right _ _).trans_lt (replyRoom_eq_true.1 hfree)
        exact carryOn_queuesLaw e (x := startPacket p) rfl hrest hroom h.stores
      · refine (queuesLaw_iff _).2 ⟨h.commands, h.replies, ?_, h.stores⟩
        simp [Engine.fits, hqueue]

/-! ### The law under a command of the packet (R163) -/

/-- What a command that is carried out leaves alone: the queues and the unit address; and it keeps the stores canonical. -/
structure CommandKept (s t : State) : Prop where
  commands : t.commandQueue = s.commandQueue
  replies : t.replyQueue = s.replyQueue
  unit : t.unitAddress = s.unitAddress
  stores : StoresCanonical s → StoresCanonical t

theorem CommandKept.of_stores (commands : t.commandQueue = s.commandQueue := by rfl)
    (replies : t.replyQueue = s.replyQueue := by rfl) (unit : t.unitAddress = s.unitAddress := by rfl)
    (cells : t.cells = s.cells := by rfl) (glyphs : t.glyphs = s.glyphs := by rfl) : CommandKept s t :=
  ⟨commands, replies, unit, fun h => by unfold StoresCanonical; rwa [cells, glyphs]⟩

@[simp] theorem CommandKept.refl (s : State) : CommandKept s s := .of_stores

/-- A verdict on a command in state `s`: what it leaves, and a long command that has begun in range. -/
def Verdict.fits (s : State) : Verdict → Prop
  | .refuse _ => True
  | .done t _ => CommandKept s t
  | .long t c => CommandKept s t ∧ c.inRange

theorem conclude_queuesLaw {v : Verdict} (h : QueuesLaw s) (hs : s.engine = .executing x)
    (hx : x.packet.session = some e) (hv : v.fits s) : QueuesLaw (conclude e x s v) := by
  have hroom := h.room_of_reserved (reserves_of_session hs hx)
  cases v with
  | refuse status => exact endPacket_queuesLaw _ _ e x h.commands hroom h.stores
  | done t data =>
    obtain ⟨hcommands, hreplies, -, hstores⟩ := hv
    exact carryOn_queuesLaw e (x := x.after data) rfl (hcommands ▸ h.commands) (hreplies ▸ hroom) (hstores h.stores)
  | long t c =>
    obtain ⟨⟨hcommands, hreplies, -, hstores⟩, hc⟩ := hv
    refine queuesLaw_of_executing (x := { x with long := some c }) (hcommands ▸ h.commands) (.inl (hreplies ▸ hroom))
      (hstores h.stores) fun d hd => ?_
    exact Option.some.inj hd ▸ hc

theorem conclude_unitAddress {v : Verdict} (hv : v.fits s) : (conclude e x s v).unitAddress = s.unitAddress := by
  cases v with
  | refuse status => simp [conclude, refusePacket]
  | done t data => exact (carryOn_frame e (x.after data) t).2.1.trans hv.unit
  | long t c => exact hv.1.unit

theorem withCommand_queuesLaw {code : Byte} {k : Fin 4 → Executing → Option (List Byte) → State → State}
    (h : QueuesLaw s) (hk : ∀ e x ops, QueuesLaw s.ready → s.ready.engine = .executing x →
      x.packet.session = some e → QueuesLaw (k e x ops s.ready)) : QueuesLaw (withCommand code k s) := by
  have hready : QueuesLaw s.ready := queuesLaw_stable.ready h
  rcases withCommand_cases code k s with hnone | ⟨e, x, hx, hsession, -, -, hrun⟩
  · rwa [hnone]
  · rw [hrun]
    exact hk e x _ hready hx hsession

end QueuesLaw

/-! ### What each command leaves (R163) -/

section Fits

variable {s t : State} {e : Fin 4} {x : Executing} {ops : List Byte} {slot : Fin 8}

@[simp] theorem fits_refuse {status : Status} : (Verdict.refuse status).fits s := trivial

@[simp] theorem fits_done {data : List Byte} : (Verdict.done t data).fits s ↔ CommandKept s t := .rfl

@[simp] theorem fits_long {c : LongCommand} : (Verdict.long t c).fits s ↔ CommandKept s t ∧ c.inRange := .rfl

@[simp] theorem commandKept_scene {scene : SceneStore} : CommandKept s { s with scene := scene } := .of_stores

@[simp] theorem commandKept_setStaged {sc : Scene} : CommandKept s (s.setStaged sc) := .of_stores

@[simp] theorem fits_read {data : List Byte} (h : CommandKept s t) : (Verdict.read x t data).fits s := by
  unfold Verdict.read
  split_ifs
  · exact h
  · trivial

@[simp] theorem fits_noOperands {v : Verdict} (h : v.fits s) : (noOperands ops v).fits s := by
  unfold noOperands
  split
  · exact h
  · trivial

@[simp] theorem fits_controlOnly {v : Verdict} (h : v.fits s) : (controlOnly e s v).fits s := by
  unfold controlOnly
  split_ifs
  · exact h
  · trivial

@[simp] theorem fits_withinExtents {targets : List Nat} {v : Verdict} (h : v.fits s) :
    (withinExtents e s targets v).fits s := by
  unfold withinExtents
  split_ifs
  · trivial
  · exact h

@[simp] theorem fits_unsealed {v : Verdict} (h : v.fits s) : (unsealed s v).fits s := by
  unfold unsealed
  split_ifs
  · trivial
  · exact h

@[simp] theorem fits_withWindow {k : WindowRecord → Verdict} (h : ∀ r, (k r).fits s) :
    (withWindow e slot s k).fits s := by
  unfold withWindow
  split
  · trivial
  · split_ifs
    · trivial
    · exact fits_unsealed (h _)

@[simp] theorem fits_editWindow {edit : WindowRecord → Option WindowRecord} : (editWindow e slot s edit).fits s := by
  refine fits_withWindow fun r => ?_
  split
  · exact CommandKept.of_stores
  · trivial

/-- R53: the run of cells lies in the Cell Buffer. -/
theorem writeCells_fits : (writeCells e x ops s).fits s := by
  have hdone (mask : BitVec 4) (start : Nat) (cells : List Cell) :
      CommandKept s { fetchSome s with cells := writeRun mask start cells (fetchSome s).cells } := by
    refine ⟨by simp, by simp, by simp, fun h => ⟨?_, ?_⟩⟩
    · exact writeRun_wf mask cells start _ (by simpa using h.1)
    · simpa using h.2
  unfold writeCells
  repeat' split
  · exact fits_withinExtents (hdone _ _ _)
  all_goals trivial

/-- R69: the run of rows lies in one glyph of one bank. -/
theorem writeGlyphRows_fits : (writeGlyphRows e x ops s).fits s := by
  unfold writeGlyphRows
  split
  · next bank code first count op mh ml rows =>
    split
    · next f data _ _ =>
      split_ifs with hrange
      · obtain ⟨hbank, -, -, -, hrows, hlength⟩ := hrange
        refine fits_controlOnly ⟨rfl, rfl, rfl, fun h => ⟨h.1, ?_⟩⟩
        exact writeGlyphRun_wf f _ _ _ hbank (Nat.le_of_lt_succ code.isLt) data _ _ (by omega) h.2
      · trivial
    · trivial
  · trivial

theorem clearBank_fits : (clearBank e x ops s).fits s := by
  unfold clearBank
  split
  · split_ifs with hbank
    · exact fits_controlOnly ⟨.refl s, hbank, Nat.zero_le _⟩
    · trivial
  · trivial

theorem readStatus_fits : (readStatus e x ops s).fits s := by
  have hcleared (data : List Byte) : (Verdict.done (clearLinkCounters s) data).fits s := CommandKept.of_stores
  unfold readStatus
  split
  · split_ifs
    · exact fits_read (.refl s)
    · refine fits_controlOnly ?_
      unfold Verdict.read
      split_ifs
      · exact hcleared _
      · trivial
    · trivial
  · trivial

theorem deviceSettings_fits : (deviceSettings e x ops s).fits s := by
  unfold deviceSettings
  repeat' split
  · exact fits_controlOnly CommandKept.of_stores
  all_goals trivial

theorem claimWindow_fits : (claimWindow e x ops s).fits s := by
  refine fits_noOperands (fits_unsealed ?_)
  split
  · trivial
  · exact fits_read .of_stores

end Fits

/-! ### The rows of the commands as one table (Table 52) -/

/-- The checks and effect of each command that `runCommand` carries out; the others have rows of their own. -/
def verdictOf : Instr → Option (Fin 4 → Executing → List Byte → State → Verdict)
  | .keepalive => some keepalive
  | .identify => some identify
  | .readStatus => some readStatus
  | .deviceSettings => some deviceSettings
  | .claimWindow => some claimWindow
  | .releaseWindow => some releaseWindow
  | .setWindow => some setWindow
  | .moveWindow => some moveWindow
  | .setScroll => some setScroll
  | .setCursor => some setCursor
  | .setBorder => some setBorder
  | .setKey => some setKey
  | .setSplit => some setSplit
  | .clearPart => some clearPart
  | .showWindow => some showWindow
  | .hideWindow => some hideWindow
  | .readWindow => some readWindow
  | .readOrder => some readOrder
  | .writeCells => some writeCells
  | .fillCells => some fillCells
  | .copyCells => some copyCells
  | .readCells => some readCells
  | .findCells => some findCells
  | .writeGlyphRows => some writeGlyphRows
  | .clearBank => some clearBank
  | .readGlyph => some readGlyph
  | .setPalette => some setPalette
  | .setColours => some setColours
  | .setOptions => some setOptions
  | .readPalette => some readPalette
  | .readColours => some readColours
  | .commit => some commit
  | .discard => some discard
  | .openSessionCommand => some openSessionCommand
  | _ => none

/-- The row of a command in the table is `runCommand` of its verdict. -/
theorem exec_verdictOf {c : Instr} {f : Fin 4 → Executing → List Byte → State → Verdict} (hf : verdictOf c = some f) :
    ∃ code, ∀ s, exec c s = .next (runCommand code f s) := by
  cases c <;> cases hf <;> exact ⟨_, fun _ => rfl⟩

/-- No command of the table touches the queues or the unit address, or spoils the stores. -/
theorem verdictOf_fits {c : Instr} {f : Fin 4 → Executing → List Byte → State → Verdict} (hf : verdictOf c = some f)
    (e : Fin 4) (x : Executing) (ops : List Byte) (s : State) : (f e x ops s).fits s := by
  cases c <;> cases hf
  case writeCells => exact writeCells_fits
  case writeGlyphRows => exact writeGlyphRows_fits
  case clearBank => exact clearBank_fits
  case readStatus => exact readStatus_fits
  case deviceSettings => exact deviceSettings_fits
  case claimWindow => exact claimWindow_fits
  case keepalive | identify | discard => exact fits_noOperands (by simp)
  case fillCells | copyCells | findCells =>
    simp only [fillCells, copyCells, findCells]
    repeat' split
    all_goals simp [LongCommand.inRange]
  all_goals
    simp only [openSessionCommand, releaseWindow, setWindow, moveWindow, setScroll, setCursor, setBorder, setKey,
      setSplit, clearPart, showWindow, hideWindow, readWindow, readOrder, readCells, readGlyph, setPalette, setColours,
      setOptions, readPalette, readColours, commit]
    repeat' split
    all_goals simp

/-- What every command of the table keeps, its row keeps. -/
theorem runCommand_queuesLaw {code : Byte} {f : Fin 4 → Executing → List Byte → State → Verdict} {s : State}
    (h : QueuesLaw s) (hf : ∀ e x ops u, (f e x ops u).fits u) : QueuesLaw (runCommand code f s) := by
  refine withCommand_queuesLaw h fun e x ops hready hx hsession => ?_
  cases ops with
  | none => exact conclude_queuesLaw (v := .refuse .badOperand) hready hx hsession trivial
  | some ops => exact conclude_queuesLaw hready hx hsession (hf e x ops _)

/-! ### The commands with rows of their own, and the steps of the long ones -/

section EngineRows

variable {s : State} {e : Fin 4} {x : Executing}

theorem closeSession_queuesLaw {ops : Option (List Byte)} (h : QueuesLaw s) (hs : s.engine = .executing x)
    (hx : x.packet.session = some e) : QueuesLaw (closeSession e x ops s) := by
  have hroom := h.room_of_reserved (reserves_of_session hs hx)
  have hended (status : Status) (failed : Nat) (y : Executing) : QueuesLaw (endPacket status failed e y s) :=
    endPacket_queuesLaw status failed e y h.commands hroom h.stores
  unfold closeSession
  split
  · exact endSession_queuesLaw e (hended _ _ _)
  · exact hended _ _ _

theorem clearCounters_queuesLaw {ops : Option (List Byte)} (h : QueuesLaw s) (hs : s.engine = .executing x)
    (hx : x.packet.session = some e) : QueuesLaw (clearCounters e x ops s) := by
  unfold clearCounters
  split
  · split_ifs
    · exact conclude_queuesLaw h hs hx readStatus_fits
    · exact h
  · exact h

theorem resetDevice_queuesLaw {ops : Option (List Byte)} (h : QueuesLaw s) (hs : s.engine = .executing x)
    (hx : x.packet.session = some e) : QueuesLaw (resetDevice e x ops s) := by
  have hrefused (status : Status) : QueuesLaw (refusePacket status e x s) :=
    conclude_queuesLaw (v := .refuse status) h hs hx trivial
  unfold resetDevice
  split
  · split_ifs
    · exact queuesLaw_of_nextHead (Nat.zero_le 4) (by simp) h.stores rfl
    · exact hrefused _
  · exact hrefused _

theorem syncCommit_queuesLaw (h : QueuesLaw s) : QueuesLaw (syncCommit s) := by
  have hready : QueuesLaw s.ready := queuesLaw_stable.ready h
  unfold syncCommit
  generalize s.ready = u at hready ⊢
  dsimp only
  split
  · next x hx =>
    split_ifs
    · split
      · next e hsession =>
        have hrefused (status : Status) : QueuesLaw (refusePacket status e x u) :=
          conclude_queuesLaw (v := .refuse status) hready hx hsession trivial
        split <;> exact hrefused _
      · next hsession =>
        split
        · exact carryOnBroadcast_queuesLaw (x := x.after []) rfl hsession hready.commands hready.replies hready.stores
        · exact queuesLaw_of_nextHead hready.commands hready.replies hready.stores rfl
    · exact hready
  · exact hready

/-- A step of a long command that goes on, or ends with its data (R55, R71). -/
theorem stepLong_queuesLaw {t : State} {last : Bool} {c : LongCommand} {data : List Byte} (h : QueuesLaw s)
    (hs : s.engine = .executing x) (hx : x.packet.session = some e) (ht : CommandKept s t) (hc : c.inRange) :
    QueuesLaw (stepLong e x last c data t) := by
  unfold stepLong
  split_ifs
  · exact conclude_queuesLaw (v := .done t data) h hs hx ht
  · exact conclude_queuesLaw (v := .long t c) h hs hx ⟨ht, hc⟩

/-- A cell step writes one cell of the Cell Buffer, or none. -/
theorem cellStep_queuesLaw (h : QueuesLaw s) : QueuesLaw (cellStep s) := by
  have hready : QueuesLaw s.ready := queuesLaw_stable.ready h
  unfold cellStep
  generalize s.ready = u at hready ⊢
  have hwrite {cells : Store Cell} (hcells : StoresCanonical u → Store.wf Cell.clear 16384 cells) :
      CommandKept u { fetchSome u with cells := cells } :=
    ⟨by simp, by simp, by simp, fun hu => ⟨hcells hu, by simpa using hu.2⟩⟩
  dsimp only
  split
  · next x hx =>
    split
    · next hsession _ =>
      exact stepLong_queuesLaw hready hx hsession (hwrite fun hu => setCell_wf _ _ _ (by simpa using hu.1)) trivial
    · next hsession _ =>
      exact stepLong_queuesLaw hready hx hsession (hwrite fun hu => copyStep_wf _ _ _ _ _ _ _ _ (by simpa using hu.1))
        trivial
    · next hsession _ => exact stepLong_queuesLaw hready hx hsession (.refl u) trivial
    · exact hready
  · exact hready

/-- A glyph step clears one glyph of the bank in hand. -/
theorem glyphStep_queuesLaw (h : QueuesLaw s) : QueuesLaw (glyphStep s) := by
  have hready : QueuesLaw s.ready := queuesLaw_stable.ready h
  unfold glyphStep
  generalize s.ready = u at hready ⊢
  dsimp only
  split
  · next x hx =>
    split
    · next e bank done hsession hlong =>
      obtain ⟨hbank, hdone⟩ : bank ≤ 7 ∧ done ≤ 255 := hready.long_inRange hx hlong
      have hwf : Store.wf (0 : Word) 65536 (clearGlyph bank done u.glyphs) :=
        clearGlyph_wf bank done hbank hdone _ hready.stores.2
      generalize clearGlyph bank done u.glyphs = glyphs at hwf ⊢
      have hcleared : CommandKept u (u.withGlyphs glyphs) := ⟨rfl, rfl, rfl, fun hu => ⟨hu.1, hwf⟩⟩
      split_ifs with hmore
      · exact conclude_queuesLaw (v := .long (u.withGlyphs glyphs) (.clearBank bank (done + 1))) hready hx hsession
          ⟨hcleared, hbank, Nat.le_of_lt_succ hmore⟩
      · exact conclude_queuesLaw (v := .done (u.withGlyphs glyphs) []) hready hx hsession hcleared
    · exact hready
  · exact hready

end EngineRows

/-! ### Every row -/

/-- The rows of the resets, and of the Command Engine where it is no command of the table. -/
theorem exec_queuesLaw_of_own_row {c : Instr} {s t : State} (hbeside : besideEngine c = false) (hf : verdictOf c = none)
    (hexec : exec c s = .next t) (h : QueuesLaw s) : QueuesLaw t := by
  have hready : QueuesLaw s.ready := queuesLaw_stable.ready h
  cases c <;> cases hexec
  case resetnAsserted => exact queuesLaw_of_nextHead (Nat.zero_le 4) (Nat.zero_le 8) h.stores rfl
  case resetnReleased =>
    split_ifs
    · exact (queuesLaw_iff _).2 ((queuesLaw_iff _).1 hready)
    · exact hready
  case initialisationSweepEnd =>
    obtain ⟨hcommands, hreplies, hfits, -⟩ := (queuesLaw_iff _).1 hready
    split_ifs
    · exact (queuesLaw_iff _).2 ⟨hcommands, hreplies, hfits, by simp [StoresCanonical, Store.wf]⟩
    · exact hready
  case takeHeadPacket =>
    split
    · exact hready
    all_goals exact takeHead_queuesLaw hready
  case cellStep => exact cellStep_queuesLaw h
  case glyphStep => exact glyphStep_queuesLaw h
  case syncCommit => exact syncCommit_queuesLaw h
  case closeSession => exact withCommand_queuesLaw h fun _ _ _ => closeSession_queuesLaw
  case clearCounters => exact withCommand_queuesLaw h fun _ _ _ => clearCounters_queuesLaw
  case resetDevice => exact withCommand_queuesLaw h fun _ _ _ => resetDevice_queuesLaw
  case frameStart | lineStart | pixel | lineEnd | frameEnd | packetReceived | watchdogExpiry | generatedFrameStart
      | generatedSymbol | relockSwitch | applyTeardown | applyCommit | blinkToggle | sessionExpiry => cases hbeside
  all_goals cases hf

/-- Every row keeps the law of the queues, the engine and the stores. -/
theorem exec_queuesLaw (c : Instr) (s t : State) (hexec : exec c s = .next t) (h : QueuesLaw s) : QueuesLaw t := by
  cases hbeside : besideEngine c with
  | true => exact queuesLaw_stable.exec hbeside hexec h
  | false =>
    cases hf : verdictOf c with
    | none => exact exec_queuesLaw_of_own_row hbeside hf hexec h
    | some f =>
      obtain ⟨code, hrow⟩ := exec_verdictOf hf
      rw [hrow] at hexec
      cases hexec
      exact runCommand_queuesLaw h (verdictOf_fits hf)

/-- Settles O56: a reply joins the queue only with its entry free or reserved, and every write to a store keeps its form. -/
theorem stepsKeepTheQueuesAndStores : Obligations.StepsKeepTheQueuesAndStores := by
  intro s t hstep h
  unfold step at hstep
  split at hstep
  · cases hstep
    exact h
  · next c rest _ => exact exec_queuesLaw c { s with pending := rest } t hstep (CoreKept.queuesLaw (s := s) .of_frame h)

end Sys2Proof.Machine

namespace Sys2Proof.Machine

/-! ### Taking the head packet (R161) -/

section TakeHead

variable {s : State} {p : Packet} {rest : List Packet} {e : Fin 4} {x : Executing}

theorem exec_takeHeadPacket_of_executing (hs : s.settled) (hx : s.engine = .executing x) :
    exec .takeHeadPacket s = .next s.quiet := by
  simp only [exec, execTakeHeadPacket, ready_of_settled s hs, quiet_engine, hx]

theorem exec_takeHeadPacket_of_free (hs : s.settled) (hfree : ∀ x, s.engine ≠ .executing x) :
    exec .takeHeadPacket s = .next (takeHead s.quiet) := by
  simp only [exec, execTakeHeadPacket, ready_of_settled s hs, quiet_engine]
  cases hengine : s.engine with
  | executing x => exact absurd hengine (hfree x)
  | idle | testing | reserved | waiting => rfl

theorem takeHead_of_empty (h : s.commandQueue = []) : takeHead s = { s with engine := .idle } := by
  simp [takeHead, h]

theorem takeHead_of_broadcast (h : s.commandQueue = p :: rest) (hp : p.session = none) :
    takeHead s = carryOnBroadcast ⟨p, 0, 0, [], none⟩ { s with commandQueue := rest } := by
  simp [takeHead, h, hp, startPacket]

theorem takeHead_of_entry (h : s.commandQueue = p :: rest) (hp : p.session = some e)
    (hentry : s.hasReplyRoom ∨ s.engine = .reserved) :
    takeHead s = carryOn e ⟨p, 0, 0, [], none⟩ { s with commandQueue := rest } := by
  have htaken : s.engine = .reserved ∨ s.replyRoom = true := hentry.symm.imp_right replyRoom_eq_true.2
  simp [takeHead, h, hp, startPacket, htaken]

theorem takeHead_of_no_entry (h : s.commandQueue = p :: rest) (hp : p.session = some e) (hroom : ¬ s.hasReplyRoom)
    (hreserved : s.engine ≠ .reserved) : takeHead s = { s with engine := .waiting } := by
  have hwaits : ¬ (s.engine = .reserved ∨ s.replyRoom = true) := not_or.2 ⟨hreserved, hroom ∘ replyRoom_eq_true.1⟩
  simp [takeHead, h, hp, hwaits]

end TakeHead

/-- Settles O33. -/
theorem headPacketIsTakenWithAReservation : Obligations.HeadPacketIsTakenWithAReservation := by
  intro s hs
  refine ⟨fun x hx => exec_takeHeadPacket_of_executing hs hx, fun hfree => ?_⟩
  rw [exec_takeHeadPacket_of_free hs hfree]
  refine ⟨fun hempty => congrArg _ (takeHead_of_empty hempty), fun p rest hqueue => ⟨fun hp => ?_, fun e hp => ⟨?_, ?_⟩⟩⟩
  · exact congrArg _ (takeHead_of_broadcast (s := s.quiet) hqueue hp)
  · exact fun hentry => congrArg _ (takeHead_of_entry (s := s.quiet) hqueue hp hentry)
  · exact fun hroom hreserved => congrArg _ (takeHead_of_no_entry (s := s.quiet) hqueue hp hroom hreserved)

/-! ### A packet that goes on or ends (R163, R165) -/

/-- Table 52: the known codes are those of the rows that carry out a command. -/
theorem knownCodes_contains_iff (code : Byte) : knownCodes.contains code = true ↔ ∃ i, (i, code) ∈ commandRows := by
  have hperm : knownCodes.Perm (commandRows.map Prod.snd) := by decide
  rw [List.contains_iff_mem, hperm.mem_iff]
  simp

/-- R165, Table 53: the end of a packet, with its reply written out. -/
theorem endPacket_eq (status : Status) (failed : Nat) (e : Fin 4) (x : Executing) (s : State) :
    let v := s.session e
    let reply : Outgoing := ⟨.reply, v.peer, x.packet.seq, replyBytes status.byte.toNat failed x.executed v.overrun
      v.noticeLost s.scene.commit.pending s.scene.epoch s.scene.frameCounter x.readData⟩
    endPacket status failed e x s =
      { s.setSession e { v with
          cache := some reply, overrun := false, noticeLost := false
          inProgress := v.inProgress && s.commandQueue.any (fun p => decide (p.session = some e)) } with
        replyQueue := s.replyQueue ++ [reply]
        engine := if s.commandQueue = [] then .idle else .testing } := by
  have hwaits : (fun p : Packet => p.session == some e) = fun p => decide (p.session = some e) :=
    funext fun _ => beq_eq_decide _ _
  simp only [endPacket, replyOf, replyPayload_eq, nextHead_eq, hwaits]
  rfl

theorem endPacket_replyQueue (status : Status) (failed : Nat) (e : Fin 4) (x : Executing) (s : State) :
    (endPacket status failed e x s).replyQueue = s.replyQueue ++ [⟨.reply, (s.session e).peer, x.packet.seq,
      replyBytes status.byte.toNat failed x.executed (s.session e).overrun (s.session e).noticeLost
        s.scene.commit.pending s.scene.epoch s.scene.frameCounter x.readData⟩] := by
  rw [endPacket_eq]

theorem carryOn_of_end {e : Fin 4} {x : Executing} (s : State) (h : x.rest = []) :
    carryOn e x s = endPacket .ok 0 e x s := by
  simp [carryOn, h]

/-- Settles O34. -/
theorem packetEndsWithItsReply : Obligations.PacketEndsWithItsReply := by
  refine ⟨fun e x s => ⟨carryOn_of_end s, fun code tail hrest => ⟨fun hknown => ?goesOn, fun hnone => ?unknown⟩⟩,
    fun x code len tail data hrest => ?after, fun _ _ _ _ => rfl, rfl, fun status failed e x s => ?ends⟩
  case goesOn =>
    simp only [carryOn, hrest, (knownCodes_contains_iff code).2 hknown, if_true]
  case unknown =>
    have hunknown : ¬ knownCodes.contains code = true := fun hknown => by
      obtain ⟨i, hi⟩ := (knownCodes_contains_iff code).1 hknown
      exact hnone i hi
    simp only [carryOn, hrest, if_neg hunknown]
    rfl
  case after => simp [Executing.after, hrest, commandLength, Nat.add_assoc]
  case ends => exact endPacket_eq status failed e x s

/-! ### KEEPALIVE (R168) -/

/-- A command with no operands refuses any (R168). -/
theorem noOperands_of_some {ops : List Byte} (v : Verdict) (h : ops ≠ []) : noOperands ops v = .refuse .badOperand := by
  cases ops with
  | nil => exact absurd rfl h
  | cons b rest => rfl

/-- R150, R151, R152: every packet of the sequenced ones restarts the idle count of its session. -/
theorem admitSequenced_idle (e : Fin 4) (seq : Byte) (payload : List Byte) (s : State) :
    ((admitSequenced e seq payload s).session e).idle = 0 := by
  have hidle : ((resetIdle e s).session e).idle = 0 := by rw [resetIdle_session]
  by_cases hnext : seq = (s.session e).nextSeq
  · by_cases hroom : s.commandQueue.length < 4
    · rw [admitSequenced_next hnext hroom]
      simp [State.session]
    · rw [admitSequenced_overrun hnext (Nat.le_of_not_lt hroom), session_setSession_same]
  · by_cases hlast : seq = (s.session e).lastSeq
    · rw [admitSequenced_last hnext hlast]
      unfold admitDuplicate
      repeat' split
      all_goals exact hidle
    · rw [admitSequenced_other hnext hlast]
      unfold answerOutOfSequence
      split_ifs
      · exact (congrArg Session.idle (session_setSession_same _ _ _)).trans hidle
      · exact hidle

/-- Settles O38. -/
theorem keepaliveIsCountedAndChangesNothing : Obligations.KeepaliveIsCountedAndChangesNothing := by
  intro s e x ops hat
  have hcarried (hops : ops = []) : exec .keepalive s = .next (carryOn e (x.after []) s.quiet) := by
    subst hops
    exact exec_of_verdict (v := .done s.quiet []) hat rfl rfl
  refine ⟨fun hops => ⟨hcarried hops, rfl⟩, fun hops => ?_, fun hpayload hpos hexecuted hdata => ?_,
    fun run source seq r htakes hseq hholds => ⟨_, exec_sequenced htakes hseq hholds, admitSequenced_idle ..⟩⟩
  · exact exec_of_verdict (v := .refuse .badOperand) hat rfl (noOperands_of_some _ hops)
  · obtain ⟨-, -, -, -, -, hoperands⟩ := hat
    have hrest : x.rest = [0x03, 0] := by simp [Executing.rest, hpayload, hpos]
    have hops : ops = [] := by simpa [hrest, operandsOf] using hoperands.symm
    have hend : (x.after []).rest = [] := by simp [Executing.after, Executing.rest, hpayload, hpos, commandLength]
    refine ⟨_, hcarried hops, ?_⟩
    rw [carryOn_of_end _ hend, endPacket_replyQueue]
    simp [Executing.after, hexecuted, hdata, quiet_session, Status.byte]

/-! ### IDENTIFY and the unit address (R169, R116) -/

theorem unitAddress_stable (unit : Byte) : Stable fun u => u.unitAddress = unit where
  kept g h := g.unit.trans h
  contest h := by simpa using h
  queued _ _ h := h
  answered _ _ h := h
  ended _ h := h
  sent h := by simpa using h

theorem runCommand_unitAddress {code : Byte} {f : Fin 4 → Executing → List Byte → State → Verdict} (s : State)
    (hf : ∀ e x ops u, (f e x ops u).fits u) : (runCommand code f s).unitAddress = s.unitAddress := by
  have hready : s.ready.unitAddress = s.unitAddress := by simp
  rcases runCommand_cases code f s with h | ⟨e, x, v, h, rfl | ⟨ops, rfl⟩⟩
  · rw [h, hready]
  · rw [h, conclude_unitAddress (v := .refuse .badOperand) trivial, hready]
  · rw [h, conclude_unitAddress (hf e x ops _), hready]

/-- The unit address at the rows of the resets, and of the Command Engine where it is no command of the table. -/
theorem exec_unitAddress_of_own_row {c : Instr} {s t : State} (hbeside : besideEngine c = false)
    (hf : verdictOf c = none) (hexec : exec c s = .next t) (hc : ∀ straps, c ≠ .resetnReleased straps) :
    t.unitAddress = s.unitAddress := by
  have hready : s.ready.unitAddress = s.unitAddress := (ready_linkKept s).unit
  cases c <;> cases hexec
  case resetnAsserted => rfl
  case resetnReleased straps => exact absurd rfl (hc straps)
  case initialisationSweepEnd => split_ifs <;> exact hready
  case takeHeadPacket =>
    split
    · exact hready
    all_goals exact (takeHead_linkKept _).unit.trans hready
  case cellStep => exact (cellStep_linkKept s).unit
  case glyphStep => exact (glyphStep_linkKept s).unit
  case syncCommit => exact (syncCommit_linkKept s).unit
  case closeSession => exact (withCommand_linkKept fun e x ops => closeSession_linkKept e x ops _).unit
  case clearCounters => exact (withCommand_linkKept fun e x ops => clearCounters_linkKept e x ops _).unit
  case resetDevice => exact (withCommand_linkKept fun e x ops => resetDevice_linkKept e x ops _).unit
  case frameStart | lineStart | pixel | lineEnd | frameEnd | packetReceived | watchdogExpiry | generatedFrameStart
      | generatedSymbol | relockSwitch | applyTeardown | applyCommit | blinkToggle | sessionExpiry => cases hbeside
  all_goals cases hf

/-- R116: no row but the release of RESETn changes the unit address. -/
theorem exec_unitAddress {c : Instr} {s t : State} (hexec : exec c s = .next t)
    (hc : ∀ straps, c ≠ .resetnReleased straps) : t.unitAddress = s.unitAddress := by
  cases hbeside : besideEngine c with
  | true => exact (unitAddress_stable s.unitAddress).exec hbeside hexec rfl
  | false =>
    cases hf : verdictOf c with
    | some f =>
      obtain ⟨code, hrow⟩ := exec_verdictOf hf
      rw [hrow] at hexec
      cases hexec
      exact runCommand_unitAddress s (verdictOf_fits hf)
    | none => exact exec_unitAddress_of_own_row hbeside hf hexec hc

/-- Settles O39. -/
theorem identifyReportsThePart : Obligations.IdentifyReportsThePart := by
  refine ⟨fun s e x ops hat => ?_, fun c s t hexec hc => exec_unitAddress hexec hc⟩
  have hread (hops : ops = []) : identify e x ops s.quiet = Verdict.read x s.quiet
      [0x0E, 0x71, 0x71, 0x40, 1, s.unitAddress, 8, 4, 4, 8, 8, 0x40, 0x00] := by
    subst hops
    rfl
  refine ⟨fun hops => (exec_read hat rfl (hread hops)).1, fun hops => (exec_read hat rfl (hread hops)).2, fun hops => ?_⟩
  exact exec_of_verdict (v := .refuse .badOperand) hat rfl (noOperands_of_some _ hops)

/-! ### CLOSE SESSION (R170) -/

/-- The row of a command that stands at the front of its packet is its meaning on the operands (R163). -/
theorem exec_of_stands {i : Instr} {code : Byte} {k : Fin 4 → Executing → Option (List Byte) → State → State} {s : State}
    {e : Fin 4} {x : Executing} {ops : List Byte} (hat : s.standsAt code e x ops)
    (hrow : exec i s = .next (withCommand code k s)) : exec i s = .next (k e x (some ops) s.quiet) := by
  obtain ⟨hs, hx, hsession, hlong, hcode, hops⟩ := hat
  rw [hrow, withCommand_of_stands code k s e x hs hx hsession hlong hcode, hops]

/-- Settles O40. -/
theorem closeSessionRepliesAndEnds : Obligations.CloseSessionRepliesAndEnds := by
  intro s e x hat
  refine ⟨_, exec_of_stands hat rfl, rfl, endSession_session_same e _, ?_, ?_, ?_, ?_⟩
  · have hreplies : (closeSession e x (some []) s.quiet).replyQueue = (endPacket .ok 0 e (x.after []) s.quiet).replyQueue :=
      rfl
    rw [hreplies, endPacket_replyQueue]
    simp [Executing.after, quiet_session, Status.byte]
  · have hlive : (closeSession e x (some []) s.quiet).scene.live = (endPacket .ok 0 e (x.after []) s.quiet).scene.live :=
      rfl
    rw [hlive, endPacket_eq]
    rfl
  · rfl
  · rfl

/-! ### READ STATUS (R171) -/

theorem geometryBytes_length (g : Option Geometry) : (geometryBytes g).length = 8 := by cases g <;> rfl

theorem statusData_length (s : State) : (statusData s).length = 25 := by
  simp [statusData, geometryBytes_length, bytes16]

section ReadStatus

variable {s : State} {e : Fin 4} {x : Executing}

/-- Log entry 16: the row CLEAR_COUNTERS is the READ STATUS with its flag. -/
theorem exec_clearCounters (hat : s.standsAt 0x05 e x [1]) : exec .clearCounters s = exec .readStatus s := by
  have hread : exec .readStatus s = .next (conclude e x s.quiet (readStatus e x [1] s.quiet)) :=
    exec_of_verdict hat rfl rfl
  rw [hread]
  exact exec_of_stands (i := .clearCounters) (k := clearCounters) hat rfl

/-- Check 3 of CLEAR COUNTERS, and the clear after the values are taken (R171). -/
theorem readStatus_clearing (e : Fin 4) (x : Executing) (s : State) : readStatus e x [1] s = controlOnly e s
    (if x.hasRoom 25 then .done (clearLinkCounters s) (statusData s) else .refuse .tooLarge) := by
  have hlength : (statusData s).length = 25 := statusData_length s
  by_cases hroom : x.hasRoom 25
  · rw [if_pos hroom]
    simp [readStatus, read_of_room x s (statusData s) (hlength ▸ hroom)]
  · rw [if_neg hroom]
    simp [readStatus, read_of_no_room x s (statusData s) (hlength ▸ hroom)]

end ReadStatus

/-- Settles O41. -/
theorem readStatusReportsAndClears : Obligations.ReadStatusReportsAndClears := by
  intro s e x flags hat lock geometry issuer data cleared
  have hlock : lockByte s.rx.lock = lock := by
    dsimp only [lock]
    cases s.rx.lock <;> rfl
  have hgeometry : geometryBytes s.rx.geometry = geometry := by
    dsimp only [geometry]
    cases s.rx.geometry <;> rfl
  have hmode : commitModeByte s.scene.commit.mode = if s.scene.commit.mode = .at then 1 else 0 := by
    cases s.scene.commit.mode <;> rfl
  have hdata : statusData s.quiet = data := by
    dsimp only [data]
    rw [← hlock, ← hgeometry, ← hmode]
    rfl
  have hlength : data.length = 25 := hdata ▸ statusData_length s.quiet
  have hreads (hflags : flags = 0) := exec_read (i := .readStatus) (data := data) (f := readStatus) hat rfl (by
    subst hflags
    exact congrArg (Verdict.read x s.quiet) hdata)
  have hclears (hflags : flags = 1) (hrole : (s.session e).role = .control) :
      exec .readStatus s = .next (conclude e x s.quiet
        (if x.hasRoom 25 then .done cleared data else .refuse .tooLarge))
      ∧ exec .clearCounters s = exec .readStatus s := by
    subst hflags
    refine ⟨exec_of_verdict hat rfl ?_, exec_clearCounters hat⟩
    rw [readStatus_clearing, hdata]
    exact controlOnly_of_control e s.quiet _ hrole
  rw [hlength] at hreads
  refine ⟨hlength, fun hroom => ⟨fun hflags => (hreads hflags).1 hroom, fun hflags hrole => ?_⟩,
    fun hroom => ⟨fun hflags => (hreads hflags).2 hroom, fun hflags hrole => ?_⟩⟩
  · obtain ⟨hread, hclear⟩ := hclears hflags hrole
    rw [hclear, hread, if_pos hroom]
    exact ⟨rfl, rfl⟩
  · obtain ⟨hread, hclear⟩ := hclears hflags hrole
    rw [hclear, hread, if_neg hroom]
    exact ⟨rfl, rfl⟩

/-! ### RESET DEVICE (R172) -/

/-- Settles O43. -/
theorem resetDeviceTakesTheValuesOfTable47 : Obligations.ResetDeviceTakesTheValuesOfTable47 := by
  intro s e x hat hrole
  have hreset : exec .resetDevice s = .next { deviceReset s.quiet with replyQueue := [resetReply e x s.quiet] } :=
    (exec_of_stands hat rfl).trans (congrArg _ (if_pos hrole))
  have hreply : resetReply e x s.quiet = ⟨.reply, (s.session e).peer, x.packet.seq,
      replyBytes 0x00 0 (x.executed + 1) false false false 0 0 x.readData⟩ := rfl
  refine ⟨_, hreset, scene_reset_atReset, scene_reset_atReset, rfl, rfl, rfl, rfl, reset_session, rfl, rfl,
    congrArg (fun o => [o]) hreply, rfl, rfl, rfl, rfl, rfl, rfl, fun k => ?_, rfl, rfl, rfl, rfl⟩
  simp [deviceReset]

end Sys2Proof.Machine

namespace Sys2Proof.Machine

/-! ### The values that operand bytes decode to stand in their ranges (R174) -/

section Decoded

variable {b hi lo : Byte}

theorem lt_of_yesNo {v : Bool} (h : yesNo b = some v) : b.toNat < 2 := by
  unfold yesNo at h
  split_ifs at h <;> bv_omega

theorem lt_of_sceneSelector {v : Bool} (h : sceneSelector b = some v) : b.toNat < 2 := lt_of_yesNo h

theorem lt_of_commitModeOf {m : CommitMode} (h : commitModeOf b = some m) : b.toNat < 2 := by
  unfold commitModeOf at h
  split_ifs at h <;> bv_omega

theorem lt_of_keySenseOf {k : KeySense} (h : keySenseOf b = some k) : b.toNat < 2 := by
  unfold keySenseOf at h
  split_ifs at h <;> bv_omega

theorem lt_of_partOf {p : PartName} (h : partOf b = some p) : b.toNat < 4 := by
  unfold partOf at h
  split_ifs at h <;> bv_omega

theorem lt_of_glyphOpOf {op : GlyphOp} (h : glyphOpOf b = some op) : b.toNat < 4 := by
  unfold glyphOpOf at h
  split_ifs at h <;> bv_omega

theorem toNat_of_slotOf {slot : Fin 8} (h : slotOf b = some slot) : b.toNat = slot.1 := by
  unfold slotOf at h
  split_ifs at h
  cases h
  rfl

theorem lt_of_slotOf {slot : Fin 8} (h : slotOf b = some slot) : b.toNat < 8 := toNat_of_slotOf h ▸ slot.isLt

theorem lt_of_paletteOf {p : Fin 4} (h : paletteOf b = some p) : b.toNat < 4 := by
  unfold paletteOf at h
  split_ifs at h with hlt
  exact hlt

theorem isCellIndex_of_cellIndexOf {i : Nat} (h : cellIndexOf hi lo = some i) : isCellIndex hi lo = true := by
  unfold cellIndexOf at h
  split_ifs at h with hle
  exact decide_eq_true (Nat.lt_succ_of_le hle)

theorem isCellCount_of_cellCountOf {n : Nat} (h : cellCountOf hi lo = some n) : isCellCount hi lo = true := by
  unfold cellCountOf at h
  split_ifs at h with hrange
  simp only [isCellCount, Bool.and_eq_true, decide_eq_true_eq]
  omega

theorem lt_of_careMaskOf {m : BitVec 4} (h : careMaskOf b = some m) : b.toNat < 16 := by
  unfold careMaskOf at h
  split_ifs at h with hlt
  exact hlt

theorem range_of_fieldMaskOf {m : BitVec 4} (h : fieldMaskOf b = some m) : 0 < b.toNat ∧ b.toNat < 16 := by
  unfold fieldMaskOf at h
  split_ifs at h with hzero
  exact ⟨by bv_omega, lt_of_careMaskOf h⟩

theorem lt_of_cellOf {code colours flags : Byte} {c : Cell} (h : cellOf code colours flags = some c) :
    flags.toNat < 16 := by
  unfold cellOf at h
  split_ifs at h with hlt
  exact hlt

theorem cellsOf_range : ∀ {list : List Byte} {cells : List Cell}, cellsOf list = some cells →
    list.length = 3 * cells.length ∧ ∀ k, k < cells.length → (list.getD (3 * k + 2) 0).toNat < 16
  | [], _, h => by
    cases h
    exact ⟨rfl, fun _ hk => absurd hk (Nat.not_lt_zero _)⟩
  | [_], _, h => by cases h
  | [_, _], _, h => by cases h
  | a :: b :: c :: rest, _, h => by
    unfold cellsOf at h
    split at h
    · next cell cells hcell hcells =>
      cases h
      obtain ⟨hlength, hflags⟩ := cellsOf_range hcells
      refine ⟨by simp only [List.length_cons]; omega, fun k hk => ?_⟩
      cases k with
      | zero => exact lt_of_cellOf hcell
      | succ k => exact hflags k (Nat.lt_of_succ_lt_succ hk)
    · cases h

theorem colourEntriesOf_range : ∀ {list : List Byte} {entries : List ColourEntry}, colourEntriesOf list = some entries →
    list.length = 4 * entries.length ∧ ∀ k, k < entries.length → (list.getD (4 * k + 3) 0).toNat < 9
  | [], _, h => by
    cases h
    exact ⟨rfl, fun _ hk => absurd hk (Nat.not_lt_zero _)⟩
  | [_], _, h => by cases h
  | [_, _], _, h => by cases h
  | [_, _, _], _, h => by cases h
  | r :: g :: b :: c :: rest, _, h => by
    unfold colourEntriesOf at h
    split_ifs at h with hcoverage
    split at h
    · next entries hentries =>
      cases h
      obtain ⟨hlength, hrest⟩ := colourEntriesOf_range hentries
      refine ⟨by simp only [List.length_cons]; omega, fun k hk => ?_⟩
      cases k with
      | zero => exact Nat.lt_succ_of_le hcoverage
      | succ k => exact hrest k (Nat.lt_of_succ_lt_succ hk)
    · cases h

theorem glyphRowsOf_length : ∀ {list : List Byte} {rows : List Word}, glyphRowsOf list = some rows →
    list.length = 2 * rows.length
  | [], _, h => by
    cases h
    rfl
  | [_], _, h => by cases h
  | _ :: _ :: rest, _, h => by
    unfold glyphRowsOf at h
    split at h
    · next rows hrows =>
      cases h
      simp only [List.length_cons, glyphRowsOf_length hrows, Nat.mul_succ]
    · cases h

theorem recordGroupInRange_of_recordGroupOf {old r : WindowRecord} {group : List Byte}
    (h : recordGroupOf old group = some r) : recordGroupInRange group = true := by
  unfold recordGroupOf at h
  split at h
  · split at h
    · next p hpalette =>
      have hpal := lt_of_paletteOf hpalette
      split_ifs at h with hrange
      simp only [recordGroupInRange, isCellIndex, Bool.and_eq_true, decide_eq_true_eq]
      omega
    · cases h
  · cases h

theorem range_of_cursorOf {ch cl start stop blink : Byte} {c : Cursor} (h : cursorOf ch cl start stop blink = some c) :
    isCellIndex ch cl = true ∧ start.toNat < 32 ∧ stop.toNat < 32 ∧ blink.toNat < 2 := by
  unfold cursorOf at h
  split at h
  · next hcell hblink =>
    split_ifs at h with hlines
    exact ⟨isCellIndex_of_cellIndexOf hcell, Nat.lt_succ_of_le hlines.1, Nat.lt_succ_of_le hlines.2, lt_of_yesNo hblink⟩
  · cases h

theorem range_of_borderOf {width colour : Byte} {p : Border} (h : borderOf width colour = some p) :
    0 < width.toNat ∧ width.toNat < 9 := by
  unfold borderOf at h
  split_ifs at h with hwidth
  omega

theorem lt_of_keyOf {kr kg kb mr mg mb sense : Byte} {k : Key} (h : keyOf kr kg kb mr mg mb sense = some k) :
    sense.toNat < 2 := by
  unfold keyOf at h
  split at h
  · next hsense => exact lt_of_keySenseOf hsense
  · cases h

theorem range_of_splitOf {row bh bl : Byte} {p : Split} (h : splitOf row bh bl = some p) :
    0 < row.toNat ∧ row.toNat < 120 ∧ isCellIndex bh bl = true := by
  unfold splitOf at h
  split at h
  · next hbase =>
    split_ifs at h with hrow
    exact ⟨hrow.1, Nat.lt_succ_of_le hrow.2, isCellIndex_of_cellIndexOf hbase⟩
  · cases h

/-- R40: a placement that names a reference names another slot. -/
theorem range_of_placementOf {slot : Fin 8} {placement reference : Byte} {p : Placement} (hb : b.toNat = slot.1)
    (h : placementOf slot placement reference = some p) :
    placement.toNat < 2 ∨ (placement.toNat < 4 ∧ reference.toNat < 8 ∧ reference ≠ b) := by
  unfold placementOf at h
  split_ifs at h with hfront hback hside
  · exact .inl (by bv_omega)
  · exact .inl (by bv_omega)
  all_goals
    split at h
    · next r hreference =>
      split_ifs at h with hsame
      refine .inr ⟨by bv_omega, lt_of_slotOf hreference, ?_⟩
      rintro rfl
      exact hsame (Fin.ext ((toNat_of_slotOf hreference).symm.trans hb))
    · cases h

theorem range_of_roleOf (h : (roleOf b).isSome) : b.toNat = 1 ∨ b.toNat = 2 := by
  unfold roleOf at h
  split_ifs at h with hcontrol hclient
  · exact .inl (by bv_omega)
  · exact .inr (by bv_omega)
  · cases h

end Decoded

/-! ### Operands out of range, command by command (check 2 of Table 44) -/

section OutOfRange

variable {s : State} {e : Fin 4} {x : Executing} {ops : List Byte}

theorem noOperands_of_outOfRange {i : Instr} (v : Verdict) (hin : operandsInRange i [] = true)
    (h : operandsInRange i ops = false) : noOperands ops v = .refuse .badOperand :=
  noOperands_of_some v (by rintro rfl; cases h.symm.trans hin)

/-- Check 2 of OPEN SESSION (R163, log entry 14). -/
theorem operandsInRange_openSessionCommand (role lh ll : Byte) : operandsInRange .openSessionCommand [role, lh, ll]
    = ((role.toNat == 1 || role.toNat == 2) && decide (59 < be16 lh ll)) := rfl

theorem openSessionCommand_of_outOfRange (h : operandsInRange .openSessionCommand ops = false) :
    openSessionCommand e x ops s = .refuse .badOperand := by
  unfold openSessionCommand
  split
  · next role lh ll =>
    refine if_neg fun ⟨hrole, hlimit⟩ => ?_
    have hin : operandsInRange .openSessionCommand [role, lh, ll] = true := by
      simp only [operandsInRange_openSessionCommand, Bool.and_eq_true, Bool.or_eq_true, beq_iff_eq, decide_eq_true_eq]
      exact ⟨range_of_roleOf hrole, by omega⟩
    cases h.symm.trans hin
  · rfl

theorem readStatus_of_outOfRange (h : operandsInRange .readStatus ops = false) :
    readStatus e x ops s = .refuse .badOperand := by
  unfold readStatus
  split
  · next flags =>
    have hflags : ¬ flags.toNat < 2 := of_decide_eq_false h
    rw [if_neg (by bv_omega), if_neg (by bv_omega)]
  · rfl

theorem deviceSettings_of_outOfRange (h : operandsInRange .deviceSettings ops = false) :
    deviceSettings e x ops s = .refuse .badOperand := by
  unfold deviceSettings
  split
  · next enable a b c d ms =>
    split
    · next henable =>
      refine if_neg fun hrange => ?_
      have hin : operandsInRange .deviceSettings [enable, a, b, c, d, ms] = true := by
        have henable' := lt_of_yesNo henable
        simp only [operandsInRange_deviceSettings, Bool.and_eq_true, decide_eq_true_eq]
        unfold be32 at hrange
        omega
      cases h.symm.trans hin
    · rfl
  · rfl

theorem readWindow_of_outOfRange (h : operandsInRange .readWindow ops = false) :
    readWindow e x ops s = .refuse .badOperand := by
  unfold readWindow
  split
  · next scene b =>
    split
    · next hscene hslot =>
      have hin : operandsInRange .readWindow [scene, b] = true :=
        Bool.and_eq_true_iff.2 ⟨decide_eq_true (lt_of_sceneSelector hscene), decide_eq_true (lt_of_slotOf hslot)⟩
      cases h.symm.trans hin
    · rfl
  · rfl

theorem readOrder_of_outOfRange (h : operandsInRange .readOrder ops = false) :
    readOrder e x ops s = .refuse .badOperand := by
  unfold readOrder
  split
  · split
    · next hscene => exact absurd (lt_of_sceneSelector hscene) (of_decide_eq_false h)
    · rfl
  · rfl

theorem readPalette_of_outOfRange (h : operandsInRange .readPalette ops = false) :
    readPalette e x ops s = .refuse .badOperand := by
  unfold readPalette
  split
  · next scene p =>
    split
    · next hscene hpalette =>
      have hin : operandsInRange .readPalette [scene, p] = true :=
        Bool.and_eq_true_iff.2 ⟨decide_eq_true (lt_of_sceneSelector hscene), decide_eq_true (lt_of_paletteOf hpalette)⟩
      cases h.symm.trans hin
    · rfl
  · rfl

theorem readColours_of_outOfRange (h : operandsInRange .readColours ops = false) :
    readColours e x ops s = .refuse .badOperand := by
  unfold readColours
  split
  · next scene first count =>
    split
    · next hscene =>
      refine if_neg fun hrange => ?_
      have hin : operandsInRange .readColours [scene, first, count] = true := by
        have hscene' := lt_of_sceneSelector hscene
        simp only [operandsInRange_readColours, Bool.and_eq_true, decide_eq_true_eq]
        omega
      cases h.symm.trans hin
    · rfl
  · rfl

theorem readCells_of_outOfRange (h : operandsInRange .readCells ops = false) :
    readCells e x ops s = .refuse .badOperand := by
  unfold readCells
  split
  · next sh sl count =>
    split
    · next hstart =>
      refine if_neg fun ⟨hlow, hhigh⟩ => ?_
      have hin : operandsInRange .readCells [sh, sl, count] = true := by
        simp only [operandsInRange_readCells, Bool.and_eq_true, decide_eq_true_eq]
        exact ⟨⟨isCellIndex_of_cellIndexOf hstart, hlow⟩, Nat.lt_succ_of_le hhigh⟩
      cases h.symm.trans hin
    · rfl
  · rfl

theorem readGlyph_of_outOfRange (h : operandsInRange .readGlyph ops = false) :
    readGlyph e x ops s = .refuse .badOperand := by
  unfold readGlyph
  split
  · have hbank := of_decide_eq_false h
    exact if_neg (by omega)
  · rfl

theorem clearBank_of_outOfRange (h : operandsInRange .clearBank ops = false) :
    clearBank e x ops s = .refuse .badOperand := by
  unfold clearBank
  split
  · have hbank := of_decide_eq_false h
    exact if_neg (by omega)
  · rfl

theorem writeCells_of_outOfRange (h : operandsInRange .writeCells ops = false) :
    writeCells e x ops s = .refuse .badOperand := by
  unfold writeCells
  split
  · next sh sl mask list =>
    split
    · next start m cells hstart hmask hcells =>
      refine if_neg fun hcount => ?_
      have hin : operandsInRange .writeCells (sh :: sl :: mask :: list) = true := by
        obtain ⟨hlow, hhigh⟩ := range_of_fieldMaskOf hmask
        obtain ⟨hlength, hflags⟩ := cellsOf_range hcells
        have hthird : list.length / 3 = cells.length := by omega
        simp only [operandsInRange_writeCells, hthird, Bool.and_eq_true, decide_eq_true_eq, beq_iff_eq, List.all_eq_true,
          List.mem_range]
        exact ⟨⟨⟨⟨⟨⟨isCellIndex_of_cellIndexOf hstart, hlow⟩, hhigh⟩, by omega⟩, by omega⟩, by omega⟩, hflags⟩
      cases h.symm.trans hin
    · rfl
  · rfl

theorem fillCells_of_outOfRange (h : operandsInRange .fillCells ops = false) :
    fillCells e x ops s = .refuse .badOperand := by
  unfold fillCells
  split
  · next sh sl ch cl mask a b c =>
    split
    · next hstart hcount hmask hcell =>
      have hin : operandsInRange .fillCells [sh, sl, ch, cl, mask, a, b, c] = true := by
        obtain ⟨hlow, hhigh⟩ := range_of_fieldMaskOf hmask
        simp only [operandsInRange_fillCells, Bool.and_eq_true, decide_eq_true_eq]
        exact ⟨⟨⟨⟨isCellIndex_of_cellIndexOf hstart, isCellCount_of_cellCountOf hcount⟩, hlow⟩, hhigh⟩, lt_of_cellOf hcell⟩
      cases h.symm.trans hin
    · rfl
  · rfl

theorem copyCells_of_outOfRange (h : operandsInRange .copyCells ops = false) :
    copyCells e x ops s = .refuse .badOperand := by
  unfold copyCells
  split
  · next sh sl sp dh dl dp width height =>
    split
    · next hsrc hdst =>
      refine if_neg fun ⟨hsp, hdp, hwidth, hwidth', hheight, hheight'⟩ => ?_
      have hin : operandsInRange .copyCells [sh, sl, sp, dh, dl, dp, width, height] = true := by
        simp only [operandsInRange_copyCells, Bool.and_eq_true, decide_eq_true_eq]
        exact ⟨⟨⟨⟨⟨⟨⟨isCellIndex_of_cellIndexOf hsrc, hsp⟩, isCellIndex_of_cellIndexOf hdst⟩, hdp⟩, hwidth⟩,
          Nat.lt_succ_of_le hwidth'⟩, hheight⟩, Nat.lt_succ_of_le hheight'⟩
      cases h.symm.trans hin
    · rfl
  · rfl

theorem findCells_of_outOfRange (h : operandsInRange .findCells ops = false) :
    findCells e x ops s = .refuse .badOperand := by
  unfold findCells
  split
  · next sh sl ch cl a b c mask =>
    split
    · next hstart hcount hcell hmask =>
      have hin : operandsInRange .findCells [sh, sl, ch, cl, a, b, c, mask] = true := by
        simp only [operandsInRange_findCells, Bool.and_eq_true, decide_eq_true_eq]
        exact ⟨⟨⟨isCellIndex_of_cellIndexOf hstart, isCellCount_of_cellCountOf hcount⟩, lt_of_cellOf hcell⟩,
          lt_of_careMaskOf hmask⟩
      cases h.symm.trans hin
    · rfl
  · rfl

theorem writeGlyphRows_of_outOfRange (h : operandsInRange .writeGlyphRows ops = false) :
    writeGlyphRows e x ops s = .refuse .badOperand := by
  unfold writeGlyphRows
  split
  · next bank code first count op mh ml rows =>
    split
    · next hop hrows =>
      refine if_neg fun hrange => ?_
      have hin : operandsInRange .writeGlyphRows (bank :: code :: first :: count :: op :: mh :: ml :: rows) = true := by
        have hop' := lt_of_glyphOpOf hop
        have hlength := glyphRowsOf_length hrows
        simp only [operandsInRange_writeGlyphRows, Bool.and_eq_true, decide_eq_true_eq, beq_iff_eq]
        omega
      cases h.symm.trans hin
    · rfl
  · rfl

theorem setPalette_of_outOfRange (h : operandsInRange .setPalette ops = false) :
    setPalette e x ops s = .refuse .badOperand := by
  unfold setPalette
  split
  · next b first indices =>
    split
    · next hpalette =>
      refine if_neg fun hrange => ?_
      have hin : operandsInRange .setPalette (b :: first :: indices) = true := by
        have hb := lt_of_paletteOf hpalette
        simp only [operandsInRange_setPalette, Bool.and_eq_true, decide_eq_true_eq]
        omega
      cases h.symm.trans hin
    · rfl
  · rfl

theorem setColours_of_outOfRange (h : operandsInRange .setColours ops = false) :
    setColours e x ops s = .refuse .badOperand := by
  unfold setColours
  split
  · next first list =>
    split
    · next entries hentries =>
      refine if_neg fun hrange => ?_
      have hin : operandsInRange .setColours (first :: list) = true := by
        obtain ⟨hlength, hcoverage⟩ := colourEntriesOf_range hentries
        have hquarter : list.length / 4 = entries.length := by omega
        simp only [operandsInRange_setColours, hquarter, Bool.and_eq_true, decide_eq_true_eq, beq_iff_eq,
          List.all_eq_true, List.mem_range]
        exact ⟨⟨⟨⟨by omega, by omega⟩, by omega⟩, by omega⟩, hcoverage⟩
      cases h.symm.trans hin
    · rfl
  · rfl

theorem setOptions_of_outOfRange (h : operandsInRange .setOptions ops = false) :
    setOptions e x ops s = .refuse .badOperand := by
  unfold setOptions
  split
  · next period mask r g b =>
    refine if_neg fun hperiod => ?_
    have hin : operandsInRange .setOptions [period, mask, r, g, b] = true := by
      simp only [operandsInRange_setOptions, Bool.and_eq_true, decide_eq_true_eq]
      omega
    cases h.symm.trans hin
  · rfl

theorem commit_of_outOfRange (h : operandsInRange .commit ops = false) : commit e x ops s = .refuse .badOperand := by
  unfold commit
  split
  · split
    · next hmode => exact absurd (lt_of_commitModeOf hmode) (of_decide_eq_false h)
    · rfl
  · rfl

end OutOfRange

/-! ### The commands that name a slot (Table 11) -/

section SlotOutOfRange

variable {s : State} {e : Fin 4} {x : Executing} {ops : List Byte}

theorem releaseWindow_of_outOfRange (h : windowOperandsInRange .releaseWindow ops = false) :
    releaseWindow e x ops s = .refuse .badOperand := by
  unfold releaseWindow
  split
  · next b =>
    split
    · next hslot =>
      have hin : windowOperandsInRange .releaseWindow [b] = true := by simp [windowOperandsInRange, lt_of_slotOf hslot]
      cases h.symm.trans hin
    · rfl
  · rfl

theorem hideWindow_of_outOfRange (h : windowOperandsInRange .hideWindow ops = false) :
    hideWindow e x ops s = .refuse .badOperand := by
  unfold hideWindow
  split
  · next b =>
    split
    · next hslot =>
      have hin : windowOperandsInRange .hideWindow [b] = true := by simp [windowOperandsInRange, lt_of_slotOf hslot]
      cases h.symm.trans hin
    · rfl
  · rfl

theorem setWindow_of_outOfRange (h : windowOperandsInRange .setWindow ops = false) :
    setWindow e x ops s = .refuse .badOperand := by
  unfold setWindow
  split
  · next b group =>
    split
    · next hslot hgroup =>
      have hin : windowOperandsInRange .setWindow (b :: group) = true := by
        simp [windowOperandsInRange, lt_of_slotOf hslot, recordGroupInRange_of_recordGroupOf hgroup]
      cases h.symm.trans hin
    · rfl
  · rfl

theorem moveWindow_of_outOfRange (h : windowOperandsInRange .moveWindow ops = false) :
    moveWindow e x ops s = .refuse .badOperand := by
  unfold moveWindow
  split
  · next b xh xl yh yl =>
    split
    · next hslot =>
      refine if_neg fun ⟨hleft, htop⟩ => ?_
      have hin : windowOperandsInRange .moveWindow [b, xh, xl, yh, yl] = true := by
        simp [windowOperandsInRange, lt_of_slotOf hslot, Nat.lt_succ_of_le hleft, Nat.lt_succ_of_le htop]
      cases h.symm.trans hin
    · rfl
  · rfl

theorem setScroll_of_outOfRange (h : windowOperandsInRange .setScroll ops = false) :
    setScroll e x ops s = .refuse .badOperand := by
  unfold setScroll
  split
  · next b bh bl fine =>
    split
    · next hslot hbase =>
      refine if_neg fun hfine => ?_
      have hin : windowOperandsInRange .setScroll [b, bh, bl, fine] = true := by
        simp [windowOperandsInRange, lt_of_slotOf hslot, isCellIndex_of_cellIndexOf hbase, Nat.lt_succ_of_le hfine]
      cases h.symm.trans hin
    · rfl
  · rfl

theorem setCursor_of_outOfRange (h : windowOperandsInRange .setCursor ops = false) :
    setCursor e x ops s = .refuse .badOperand := by
  unfold setCursor
  split
  · next b ch cl start stop blink =>
    split
    · next hslot hcursor =>
      have hin : windowOperandsInRange .setCursor [b, ch, cl, start, stop, blink] = true := by
        simp [windowOperandsInRange, lt_of_slotOf hslot, range_of_cursorOf hcursor]
      cases h.symm.trans hin
    · rfl
  · rfl

theorem setBorder_of_outOfRange (h : windowOperandsInRange .setBorder ops = false) :
    setBorder e x ops s = .refuse .badOperand := by
  unfold setBorder
  split
  · next b width colour =>
    split
    · next hslot hborder =>
      have hin : windowOperandsInRange .setBorder [b, width, colour] = true := by
        simp [windowOperandsInRange, lt_of_slotOf hslot, range_of_borderOf hborder]
      cases h.symm.trans hin
    · rfl
  · rfl

theorem setKey_of_outOfRange (h : windowOperandsInRange .setKey ops = false) :
    setKey e x ops s = .refuse .badOperand := by
  unfold setKey
  split
  · next b kr kg kb mr mg mb sense =>
    split
    · next hslot hkey =>
      have hin : windowOperandsInRange .setKey [b, kr, kg, kb, mr, mg, mb, sense] = true := by
        simp [windowOperandsInRange, lt_of_slotOf hslot, lt_of_keyOf hkey]
      cases h.symm.trans hin
    · rfl
  · rfl

theorem setSplit_of_outOfRange (h : windowOperandsInRange .setSplit ops = false) :
    setSplit e x ops s = .refuse .badOperand := by
  unfold setSplit
  split
  · next b row bh bl =>
    split
    · next hslot hsplit =>
      have hin : windowOperandsInRange .setSplit [b, row, bh, bl] = true := by
        simp [windowOperandsInRange, lt_of_slotOf hslot, range_of_splitOf hsplit]
      cases h.symm.trans hin
    · rfl
  · rfl

theorem clearPart_of_outOfRange (h : windowOperandsInRange .clearPart ops = false) :
    clearPart e x ops s = .refuse .badOperand := by
  unfold clearPart
  split
  · next b part =>
    split
    · next hslot hpart =>
      have hin : windowOperandsInRange .clearPart [b, part] = true := by
        simp [windowOperandsInRange, lt_of_slotOf hslot, lt_of_partOf hpart]
      cases h.symm.trans hin
    · rfl
  · rfl

theorem showWindow_of_outOfRange (h : windowOperandsInRange .showWindow ops = false) :
    showWindow e x ops s = .refuse .badOperand := by
  unfold showWindow
  split
  · next b placement reference =>
    split
    · next hslot =>
      split
      · next hplacement =>
        have hin : windowOperandsInRange .showWindow [b, placement, reference] = true := by
          simpa [windowOperandsInRange, lt_of_slotOf hslot, and_assoc]
            using range_of_placementOf (toNat_of_slotOf hslot) hplacement
        cases h.symm.trans hin
      · rfl
    · rfl
  · rfl

end SlotOutOfRange

/-! ### The row of a command, by its check 2 -/

/-- The row of a command in the table, with the code Table 52 gives it. -/
theorem exec_of_verdictOf {i : Instr} {code : Byte} {f : Fin 4 → Executing → List Byte → State → Verdict}
    (hmem : (i, code) ∈ commandRows) (hf : verdictOf i = some f) (s : State) :
    exec i s = .next (runCommand code f s) := by
  cases i <;> cases hf <;> (
    simp [commandRows, plainCommands, slotCommands] at hmem
    subst hmem
    rfl)

/-- The three commands of Table 52 whose rows are no `runCommand`. -/
theorem own_row_of_verdictOf {i : Instr} {code : Byte} (hmem : (i, code) ∈ commandRows) (hf : verdictOf i = none) :
    i = .closeSession ∧ code = 0x02 ∨ i = .resetDevice ∧ code = 0x07 ∨ i = .syncCommit ∧ code = 0x52 := by
  have hall : ∀ p ∈ commandRows, (verdictOf p.1).isNone →
      p.1 = .closeSession ∧ p.2 = 0x02 ∨ p.1 = .resetDevice ∧ p.2 = 0x07 ∨ p.1 = .syncCommit ∧ p.2 = 0x52 := by decide
  exact hall _ hmem (Option.isNone_iff_eq_none.2 hf)

/-- What every row of Table 52 but SYNC COMMIT is: its command where it stands, refused BAD_OPERAND where R174 refuses the
length byte. -/
theorem exec_eq_withCommand {i : Instr} {code : Byte} (hmem : (i, code) ∈ commandRows) (hsync : i ≠ .syncCommit) :
    ∃ k, (∀ e x s, k e x none s = refusePacket .badOperand e x s) ∧ ∀ s, exec i s = .next (withCommand code k s) := by
  cases hf : verdictOf i with
  | some f => exact ⟨_, fun _ _ _ => rfl, exec_of_verdictOf hmem hf⟩
  | none =>
    rcases own_row_of_verdictOf hmem hf with ⟨rfl, rfl⟩ | ⟨rfl, rfl⟩ | ⟨rfl, rfl⟩
    · exact ⟨closeSession, fun _ _ _ => rfl, fun _ => rfl⟩
    · exact ⟨resetDevice, fun _ _ _ => rfl, fun _ => rfl⟩
    · exact absurd rfl hsync

theorem code_of_syncCommit {code : Byte} (hmem : (Instr.syncCommit, code) ∈ commandRows) : code = 0x52 := by
  simpa [commandRows, plainCommands, slotCommands] using hmem

/-- A command that does not stand at the front of the packet in execution changes nothing (log entry 3). -/
theorem withCommand_of_absent {code : Byte} {k : Fin 4 → Executing → Option (List Byte) → State → State} {s : State}
    (hs : s.settled) (h : ∀ x, s.engine = .executing x → x.long ≠ none ∨ x.rest.head? ≠ some code) :
    withCommand code k s = s.quiet := by
  rcases withCommand_cases code k s with hsame | ⟨e, x, hx, -, hlong, hcode, -⟩
  · rw [hsame, ready_of_settled s hs]
  · rw [ready_of_settled s hs] at hx
    rcases h x hx with hbusy | hother
    · exact absurd hlong hbusy
    · exact absurd hcode hother

section SyncCommitInSession

variable {s : State} {e : Fin 4} {x : Executing}

/-- R11, R163: SYNC COMMIT of a session packet is refused at check 3. -/
theorem syncCommit_of_session_pair {th tl : Byte} (hat : s.standsAt 0x52 e x [th, tl]) :
    syncCommit s = refusePacket .notPermitted e x s.quiet := by
  obtain ⟨hs, hx, hsession, hlong, hcode, hops⟩ := hat
  simp [syncCommit, ready_of_settled s hs, hx, hlong, hcode, hsession, codeSyncCommit, hops]

/-- R11, R163: the operands of SYNC COMMIT are a frame counter value; others are refused at check 2. -/
theorem syncCommit_of_session_other (hs : s.settled) (hx : s.engine = .executing x) (hsession : x.packet.session = some e)
    (hlong : x.long = none) (hcode : x.rest.head? = some 0x52) (hops : ∀ th tl, operandsOf x.rest ≠ some [th, tl]) :
    syncCommit s = refusePacket .badOperand e x s.quiet := by
  simp only [syncCommit, ready_of_settled s hs, quiet_engine, hx, hlong, hcode, hsession, codeSyncCommit, and_self,
    if_true]

end SyncCommitInSession

theorem syncCommit_of_absent {s : State} (hs : s.settled)
    (h : ∀ x, s.engine = .executing x → x.long ≠ none ∨ x.rest.head? ≠ some 0x52) : syncCommit s = s.quiet := by
  simp only [syncCommit, ready_of_settled s hs, quiet_engine, codeSyncCommit]
  split
  · next x hx => exact if_neg fun ⟨hlong, hcode⟩ => (h x hx).elim (absurd hlong) (absurd hcode)
  · rfl

section Rows

variable {i : Instr} {code : Byte} {f : Fin 4 → Executing → List Byte → State → Verdict} {s : State} {e : Fin 4}
  {x : Executing} {ops : List Byte}

theorem plain_of_outOfRange (hmem : (i, code) ∈ plainCommands) (hf : verdictOf i = some f)
    (h : operandsInRange i ops = false) : f e x ops s = .refuse .badOperand := by
  cases i <;> cases hf
  case keepalive | identify | claimWindow | discard => exact noOperands_of_outOfRange _ rfl h
  case openSessionCommand => exact openSessionCommand_of_outOfRange h
  case readStatus => exact readStatus_of_outOfRange h
  case deviceSettings => exact deviceSettings_of_outOfRange h
  case readWindow => exact readWindow_of_outOfRange h
  case readOrder => exact readOrder_of_outOfRange h
  case readPalette => exact readPalette_of_outOfRange h
  case readColours => exact readColours_of_outOfRange h
  case readCells => exact readCells_of_outOfRange h
  case readGlyph => exact readGlyph_of_outOfRange h
  case clearBank => exact clearBank_of_outOfRange h
  case writeCells => exact writeCells_of_outOfRange h
  case fillCells => exact fillCells_of_outOfRange h
  case copyCells => exact copyCells_of_outOfRange h
  case findCells => exact findCells_of_outOfRange h
  case writeGlyphRows => exact writeGlyphRows_of_outOfRange h
  case setPalette => exact setPalette_of_outOfRange h
  case setColours => exact setColours_of_outOfRange h
  case setOptions => exact setOptions_of_outOfRange h
  case commit => exact commit_of_outOfRange h
  all_goals simp [plainCommands] at hmem

theorem verdictOf_of_slotCommand (hmem : (i, code) ∈ slotCommands) : ∃ f, verdictOf i = some f := by
  have hall : ∀ p ∈ slotCommands, (verdictOf p.1).isSome := by decide
  exact Option.isSome_iff_exists.1 (hall _ hmem)

theorem slot_of_outOfRange (hmem : (i, code) ∈ slotCommands) (hf : verdictOf i = some f)
    (h : windowOperandsInRange i ops = false) : f e x ops s = .refuse .badOperand := by
  cases i <;> cases hf
  case releaseWindow => exact releaseWindow_of_outOfRange h
  case setWindow => exact setWindow_of_outOfRange h
  case moveWindow => exact moveWindow_of_outOfRange h
  case setScroll => exact setScroll_of_outOfRange h
  case setCursor => exact setCursor_of_outOfRange h
  case setBorder => exact setBorder_of_outOfRange h
  case setKey => exact setKey_of_outOfRange h
  case setSplit => exact setSplit_of_outOfRange h
  case clearPart => exact clearPart_of_outOfRange h
  case showWindow => exact showWindow_of_outOfRange h
  case hideWindow => exact hideWindow_of_outOfRange h
  all_goals simp [slotCommands] at hmem

/-- Check 2 of the commands whose rows are no `runCommand`. -/
theorem exec_own_row_of_outOfRange (hmem : (i, code) ∈ commandRows) (hf : verdictOf i = none)
    (hat : s.standsAt code e x ops) (h : operandsInRange i ops = false) :
    exec i s = .next (refusePacket .badOperand e x s.quiet) := by
  rcases own_row_of_verdictOf hmem hf with ⟨rfl, rfl⟩ | ⟨rfl, rfl⟩ | ⟨rfl, rfl⟩
  · cases ops with
    | nil => cases h
    | cons b rest => exact exec_of_stands (k := closeSession) hat rfl
  · cases ops with
    | nil => cases h
    | cons b rest => exact exec_of_stands (k := resetDevice) hat rfl
  · obtain ⟨hs, hx, hsession, hlong, hcode, hops⟩ := hat
    refine congrArg _ (syncCommit_of_session_other hs hx hsession hlong hcode fun th tl hpair => ?_)
    cases hops.symm.trans hpair
    cases h

end Rows

/-- Settles O35. -/
theorem operandsOutOfRangeAreRefused : Obligations.OperandsOutOfRangeAreRefused := by
  intro i code s hmem hs
  refine ⟨fun e x ops hat hplain hout => ?plain, fun e x ops hat hslot hout => ?slot,
    fun e x hx hsession hlong hcode hops => ?length, fun habsent => ?absent⟩
  case plain =>
    cases hf : verdictOf i with
    | some f => exact exec_of_verdict hat (exec_of_verdictOf hmem hf s) (plain_of_outOfRange hplain hf hout)
    | none => exact exec_own_row_of_outOfRange hmem hf hat hout
  case slot =>
    obtain ⟨f, hf⟩ := verdictOf_of_slotCommand hslot
    exact exec_of_verdict hat (exec_of_verdictOf hmem hf s) (slot_of_outOfRange hslot hf hout)
  case length =>
    by_cases hsync : i = .syncCommit
    · subst hsync
      obtain rfl := code_of_syncCommit hmem
      exact congrArg _ (syncCommit_of_session_other hs hx hsession hlong hcode (by simp [hops]))
    · obtain ⟨k, hnone, hrow⟩ := exec_eq_withCommand hmem hsync
      rw [hrow, withCommand_of_stands code k s e x hs hx hsession hlong hcode, hops, hnone]
  case absent =>
    by_cases hsync : i = .syncCommit
    · subst hsync
      obtain rfl := code_of_syncCommit hmem
      exact congrArg _ (syncCommit_of_absent hs habsent)
    · obtain ⟨k, -, hrow⟩ := exec_eq_withCommand hmem hsync
      rw [hrow, withCommand_of_absent hs habsent]

end Sys2Proof.Machine

namespace Sys2Proof.Machine

/-! ### The operands that pass check 2, by their number -/

section Shapes

variable {ops : List Byte}

theorem deviceSettings_shape (h : operandsInRange .deviceSettings ops = true) :
    ∃ enable a b c d ms, ops = [enable, a, b, c, d, ms] := by
  rcases ops with _ | ⟨enable, _ | ⟨a, _ | ⟨b, _ | ⟨c, _ | ⟨d, _ | ⟨ms, _ | ⟨more, rest⟩⟩⟩⟩⟩⟩⟩
  case cons.cons.cons.cons.cons.cons.nil => exact ⟨enable, a, b, c, d, ms, rfl⟩
  all_goals cases h

theorem writeGlyphRows_shape (h : operandsInRange .writeGlyphRows ops = true) :
    ∃ bank code first count op mh ml rows, ops = bank :: code :: first :: count :: op :: mh :: ml :: rows := by
  rcases ops with _ | ⟨bank, _ | ⟨code, _ | ⟨first, _ | ⟨count, _ | ⟨op, _ | ⟨mh, _ | ⟨ml, rows⟩⟩⟩⟩⟩⟩⟩
  case cons.cons.cons.cons.cons.cons.cons => exact ⟨bank, code, first, count, op, mh, ml, rows, rfl⟩
  all_goals cases h

theorem clearBank_shape (h : operandsInRange .clearBank ops = true) : ∃ bank, ops = [bank] := by
  rcases ops with _ | ⟨bank, _ | ⟨more, rest⟩⟩
  case cons.nil => exact ⟨bank, rfl⟩
  all_goals cases h

theorem setPalette_shape (h : operandsInRange .setPalette ops = true) :
    ∃ p first indices, ops = p :: first :: indices := by
  rcases ops with _ | ⟨p, _ | ⟨first, indices⟩⟩
  case cons.cons => exact ⟨p, first, indices, rfl⟩
  all_goals cases h

theorem setColours_shape (h : operandsInRange .setColours ops = true) : ∃ first list, ops = first :: list := by
  rcases ops with _ | ⟨first, list⟩
  · cases h
  · exact ⟨first, list, rfl⟩

theorem setOptions_shape (h : operandsInRange .setOptions ops = true) :
    ∃ period mask r g b, ops = [period, mask, r, g, b] := by
  rcases ops with _ | ⟨period, _ | ⟨mask, _ | ⟨r, _ | ⟨g, _ | ⟨b, _ | ⟨more, rest⟩⟩⟩⟩⟩⟩
  case cons.cons.cons.cons.cons.nil => exact ⟨period, mask, r, g, b, rfl⟩
  all_goals cases h

theorem openSessionCommand_shape (h : operandsInRange .openSessionCommand ops = true) :
    ∃ role lh ll, ops = [role, lh, ll] := by
  rcases ops with _ | ⟨role, _ | ⟨lh, _ | ⟨ll, _ | ⟨more, rest⟩⟩⟩⟩
  case cons.cons.cons.nil => exact ⟨role, lh, ll, rfl⟩
  all_goals cases h

theorem syncCommit_shape (h : operandsInRange .syncCommit ops = true) : ∃ th tl, ops = [th, tl] := by
  rcases ops with _ | ⟨th, _ | ⟨tl, _ | ⟨more, rest⟩⟩⟩
  case cons.cons.nil => exact ⟨th, tl, rfl⟩
  all_goals cases h

theorem commit_shape (h : operandsInRange .commit ops = true) : ∃ mode th tl, ops = [mode, th, tl] := by
  rcases ops with _ | ⟨mode, _ | ⟨th, _ | ⟨tl, _ | ⟨more, rest⟩⟩⟩⟩
  case cons.cons.cons.nil => exact ⟨mode, th, tl, rfl⟩
  all_goals cases h

theorem resetDevice_shape (h : operandsInRange .resetDevice ops = true) : ops = [] := by
  cases ops with
  | nil => rfl
  | cons b rest => cases h

theorem claimWindow_shape (h : operandsInRange .claimWindow ops = true) : ops = [] := by
  cases ops with
  | nil => rfl
  | cons b rest => cases h

end Shapes

/-! ### The later checks, where they refuse (Table 44) -/

section LaterChecks

variable {s : State} {e : Fin 4} {x : Executing} {ops : List Byte}

/-- Check 3. -/
theorem controlOnly_of_client (k : Verdict) (h : (s.session e).role = .client) :
    controlOnly e s k = .refuse .notPermitted := by
  simp [controlOnly, h]

/-- Check 6. -/
theorem unsealed_of_pending (k : Verdict) (h : s.scene.commit.pending = true) : unsealed s k = .refuse .stageSealed := by
  simp [unsealed, h]

/-- Check 3 is passed, and check 6 refuses. -/
theorem stagedWrite_of_pending (sc : Scene) (hrole : (s.session e).role = .control)
    (h : s.scene.commit.pending = true) : stagedWrite e s sc = .refuse .stageSealed :=
  (controlOnly_of_control e s _ hrole).trans (unsealed_of_pending _ h)

theorem roleOf_of_range {b : Byte} (h : b.toNat = 1 ∨ b.toNat = 2) : (roleOf b).isSome := by
  rcases h with h | h
  · obtain rfl : b = 1 := by bv_omega
    rfl
  · obtain rfl : b = 2 := by bv_omega
    rfl

theorem commitModeOf_of_lt {b : Byte} (h : b.toNat < 2) : ∃ m, commitModeOf b = some m := by
  rcases byte_lt_two h with rfl | rfl
  · exact ⟨_, rfl⟩
  · exact ⟨_, rfl⟩

/-! ### What the commands come to past check 2 -/

theorem deviceSettings_controlOnly (h : operandsInRange .deviceSettings ops = true) :
    ∃ k, deviceSettings e x ops s = controlOnly e s k := by
  obtain ⟨enable, a, b, c, d, ms, rfl⟩ := deviceSettings_shape h
  simp only [operandsInRange_deviceSettings, Bool.and_eq_true, decide_eq_true_eq] at h
  obtain ⟨⟨⟨⟨henable, hlow⟩, hhigh⟩, hmin⟩, hmax⟩ := h
  have hrange : 10000 ≤ be32 a b c d ∧ be32 a b c d ≤ 100000 ∧ 20 ≤ ms.toNat ∧ ms.toNat ≤ 250 := by
    unfold be32
    omega
  simp only [deviceSettings, yesNo_of_lt henable, if_pos hrange]
  exact ⟨_, rfl⟩

theorem writeGlyphRows_controlOnly (h : operandsInRange .writeGlyphRows ops = true) :
    ∃ k, writeGlyphRows e x ops s = controlOnly e s k := by
  obtain ⟨bank, code, first, count, op, mh, ml, rows, rfl⟩ := writeGlyphRows_shape h
  obtain ⟨-, -, f, -, hwrite⟩ := writeGlyphRows_of_inRange (e := e) (x := x) (s := s) h
  exact ⟨_, hwrite⟩

theorem clearBank_controlOnly (h : operandsInRange .clearBank ops = true) :
    ∃ k, clearBank e x ops s = controlOnly e s k := by
  obtain ⟨bank, rfl⟩ := clearBank_shape h
  exact ⟨_, clearBank_of_inRange h⟩

theorem setPalette_stagedWrite (h : operandsInRange .setPalette ops = true) :
    ∃ sc, setPalette e x ops s = stagedWrite e s sc := by
  obtain ⟨p, first, indices, rfl⟩ := setPalette_shape h
  obtain ⟨q, -, hwrite⟩ := setPalette_of_inRange (e := e) (x := x) (s := s) h
  exact ⟨_, hwrite⟩

theorem setColours_stagedWrite (h : operandsInRange .setColours ops = true) :
    ∃ sc, setColours e x ops s = stagedWrite e s sc := by
  obtain ⟨first, list, rfl⟩ := setColours_shape h
  exact ⟨_, setColours_of_inRange h⟩

theorem setOptions_stagedWrite (h : operandsInRange .setOptions ops = true) :
    ∃ sc, setOptions e x ops s = stagedWrite e s sc := by
  obtain ⟨period, mask, r, g, b, rfl⟩ := setOptions_shape h
  exact ⟨_, setOptions_of_inRange h⟩

/-- R163: OPEN SESSION in a sequenced packet is refused at check 3, for either role. -/
theorem openSessionCommand_of_inRange (h : operandsInRange .openSessionCommand ops = true) :
    openSessionCommand e x ops s = .refuse .notPermitted := by
  obtain ⟨role, lh, ll, rfl⟩ := openSessionCommand_shape h
  simp only [operandsInRange_openSessionCommand, Bool.and_eq_true, Bool.or_eq_true, beq_iff_eq, decide_eq_true_eq] at h
  obtain ⟨hrole, hlimit⟩ := h
  exact if_pos ⟨roleOf_of_range hrole, by omega⟩

/-- R8: a COMMIT finds the record taken. -/
theorem commit_of_pending (h : operandsInRange .commit ops = true) (hpending : s.scene.commit.pending = true) :
    commit e x ops s = .refuse .commitPending := by
  obtain ⟨mode, th, tl, rfl⟩ := commit_shape h
  obtain ⟨m, hm⟩ := commitModeOf_of_lt (of_decide_eq_true h)
  simp only [commit, hm]
  exact if_pos hpending

/-! ### The rows -/

/-- Check 3 of a row whose command asks for the role next. -/
theorem exec_refuses_client {i : Instr} {code : Byte} {f : Fin 4 → Executing → List Byte → State → Verdict}
    (hat : s.standsAt code e x ops) (hrow : exec i s = .next (runCommand code f s)) (hrole : (s.session e).role = .client)
    (hf : ∃ k, f e x ops s.quiet = controlOnly e s.quiet k) :
    exec i s = .next (refusePacket .notPermitted e x s.quiet) := by
  obtain ⟨k, hk⟩ := hf
  exact exec_of_verdict hat hrow (hk.trans (controlOnly_of_client k hrole))

/-- Check 6 of a row whose command is a staged write. -/
theorem exec_refuses_sealed {i : Instr} {code : Byte} {f : Fin 4 → Executing → List Byte → State → Verdict}
    (hat : s.standsAt code e x ops) (hrow : exec i s = .next (runCommand code f s))
    (hrole : (s.session e).role = .control) (hpending : s.scene.commit.pending = true)
    (hf : ∃ sc, f e x ops s.quiet = stagedWrite e s.quiet sc) :
    exec i s = .next (refusePacket .stageSealed e x s.quiet) := by
  obtain ⟨sc, hsc⟩ := hf
  exact exec_of_verdict hat hrow (hsc.trans (stagedWrite_of_pending sc hrole hpending))

theorem exec_stagedWrite_refuses_client {i : Instr} {code : Byte}
    {f : Fin 4 → Executing → List Byte → State → Verdict} (hat : s.standsAt code e x ops)
    (hrow : exec i s = .next (runCommand code f s)) (hrole : (s.session e).role = .client)
    (hf : ∃ sc, f e x ops s.quiet = stagedWrite e s.quiet sc) :
    exec i s = .next (refusePacket .notPermitted e x s.quiet) :=
  exec_refuses_client hat hrow hrole (hf.imp' _ fun _ h => h)

/-- R172: RESET DEVICE of a CLIENT. -/
theorem exec_resetDevice_of_client (hat : s.standsAt 0x07 e x []) (hrole : (s.session e).role = .client) :
    exec .resetDevice s = .next (refusePacket .notPermitted e x s.quiet) := by
  have hnot : (s.quiet.session e).role ≠ .control := by simp [quiet_session, hrole]
  exact (exec_of_stands (k := resetDevice) hat rfl).trans (congrArg _ (if_neg hnot))

/-- R171: READ STATUS with CLEAR COUNTERS of a CLIENT. -/
theorem exec_readStatus_of_client (hat : s.standsAt 0x05 e x [1]) (hrole : (s.session e).role = .client) :
    exec .readStatus s = .next (refusePacket .notPermitted e x s.quiet) :=
  exec_refuses_client (f := readStatus) hat rfl hrole ⟨_, readStatus_clearing e x s.quiet⟩

end LaterChecks

/-- Settles O44. -/
theorem rolesAndSealingAreChecked : Obligations.RolesAndSealingAreChecked := by
  refine ⟨fun i code s e x ops hmem hat hin hrole => ?control,
    fun s e x hat hrole => ⟨exec_readStatus_of_client hat hrole, ?clear⟩,
    fun i code s e x ops hmem hat hin => ?refused, fun i code s e x ops hmem hat hin hrole hpending => ?sealed,
    fun s e x ops hat hin hpending => exec_of_verdict hat rfl (commit_of_pending hin hpending)⟩
  case control =>
    simp only [List.mem_cons, List.not_mem_nil, or_false, Prod.mk.injEq] at hmem
    rcases hmem with ⟨rfl, rfl⟩ | ⟨rfl, rfl⟩ | ⟨rfl, rfl⟩ | ⟨rfl, rfl⟩ | ⟨rfl, rfl⟩ | ⟨rfl, rfl⟩ | ⟨rfl, rfl⟩
    · exact exec_refuses_client hat rfl hrole (deviceSettings_controlOnly hin)
    · cases resetDevice_shape hin
      exact exec_resetDevice_of_client hat hrole
    · exact exec_refuses_client hat rfl hrole (writeGlyphRows_controlOnly hin)
    · exact exec_refuses_client hat rfl hrole (clearBank_controlOnly hin)
    · exact exec_stagedWrite_refuses_client hat rfl hrole (setPalette_stagedWrite hin)
    · exact exec_stagedWrite_refuses_client hat rfl hrole (setColours_stagedWrite hin)
    · exact exec_stagedWrite_refuses_client hat rfl hrole (setOptions_stagedWrite hin)
  case clear => rw [exec_clearCounters hat, exec_readStatus_of_client hat hrole]
  case refused =>
    simp only [List.mem_cons, List.not_mem_nil, or_false, Prod.mk.injEq] at hmem
    rcases hmem with ⟨rfl, rfl⟩ | ⟨rfl, rfl⟩
    · exact exec_of_verdict hat rfl (openSessionCommand_of_inRange hin)
    · obtain ⟨th, tl, rfl⟩ := syncCommit_shape hin
      exact congrArg _ (syncCommit_of_session_pair hat)
  case sealed =>
    simp only [List.mem_cons, List.not_mem_nil, or_false, Prod.mk.injEq] at hmem
    rcases hmem with ⟨rfl, rfl⟩ | ⟨rfl, rfl⟩ | ⟨rfl, rfl⟩ | ⟨rfl, rfl⟩
    · cases claimWindow_shape hin
      exact exec_of_verdict (f := claimWindow) hat rfl (unsealed_of_pending (s := s.quiet) _ hpending)
    · exact exec_refuses_sealed hat rfl (hrole nofun) hpending (setPalette_stagedWrite hin)
    · exact exec_refuses_sealed hat rfl (hrole nofun) hpending (setColours_stagedWrite hin)
    · exact exec_refuses_sealed hat rfl (hrole nofun) hpending (setOptions_stagedWrite hin)

end Sys2Proof.Machine

namespace Sys2Proof.Machine

/-! ### How a run of bytes is judged (R173, Table 48) -/

theorem byte_toNat_of_le {n : Nat} (h : n ≤ 240) : (byte n).toNat = n :=
  (BitVec.toNat_ofNat n 8).trans (Nat.mod_eq_of_lt (by omega))

theorem byte_toNat_self (b : Byte) : byte b.toNat = b := BitVec.ofNat_toNat 8 b

theorem eq_bytes16_iff {hi lo : Byte} {w : Word} : [hi, lo] = bytes16 w.toNat ↔ be16 hi lo = w.toNat := by
  simp only [bytes16, be16, List.cons.injEq, and_true]
  bv_omega

theorem drop_last_two {rest : List Byte} {n : Nat} (h : rest.length = n + 2) :
    rest.drop n = [rest.getD n 0, rest.getD (n + 1) 0] := by
  rw [List.drop_eq_getElem_cons (by omega), List.drop_eq_getElem_cons (by omega), List.drop_eq_nil_of_le (by omega),
    List.getD_eq_getElem _ _ (by omega), List.getD_eq_getElem _ _ (by omega)]

/-- What follows the header is a payload of `n` bytes and two bytes that carry the word `w`. -/
theorem ends_with_word_iff {rest : List Byte} {n : Nat} {w : Word} :
    rest.length = n + 2 ∧ be16 (rest.getD n 0) (rest.getD (n + 1) 0) = w.toNat
      ↔ (rest.take n).length = n ∧ rest = rest.take n ++ bytes16 w.toNat := by
  rw [← eq_bytes16_iff]
  constructor
  · rintro ⟨hlen, hword⟩
    exact ⟨List.length_take_of_le (by omega), by rw [← hword, ← drop_last_two hlen, List.take_append_drop]⟩
  · rintro ⟨htake, hrest⟩
    have hlen : rest.length = n + 2 := by
      rw [hrest, List.length_append, htake]
      rfl
    exact ⟨hlen, (drop_last_two hlen).symm.trans
      (List.append_cancel_left ((List.take_append_drop n rest).trans hrest))⟩

theorem short_or_headed (run : List Byte) :
    run.length < 5 ∨ ∃ kind dest source seq len rest, run = kind :: dest :: source :: seq :: len :: rest := by
  rcases run with _ | ⟨kind, _ | ⟨dest, _ | ⟨source, _ | ⟨seq, _ | ⟨len, rest⟩⟩⟩⟩⟩
  case cons.cons.cons.cons.cons => exact .inr ⟨kind, dest, source, seq, len, rest, rfl⟩
  all_goals exact .inl (by simp)

theorem judgeRun_of_short {run : List Byte} (h : run.length < 5) : judgeRun run = .bad := by
  rcases run with _ | ⟨kind, _ | ⟨dest, _ | ⟨source, _ | ⟨seq, _ | ⟨len, rest⟩⟩⟩⟩⟩
  case cons.cons.cons.cons.cons =>
    simp only [List.length_cons] at h
    omega
  all_goals rfl

section Headed

variable (kind dest source seq len : Byte) (rest : List Byte)

/-- The three answers, in the order of R173: the lengths of an overrun, then the whole packet and its check word. -/
theorem judgeRun_of_headed :
    judgeRun (kind :: dest :: source :: seq :: len :: rest) =
      if 247 < rest.length + 5 ∨ 240 < len.toNat then .overrun
      else if rest.length = len.toNat + 2 ∧ be16 (rest.getD len.toNat 0) (rest.getD (len.toNat + 1) 0)
          = (checkWord (kind :: dest :: source :: seq :: len :: rest.take len.toNat)).toNat
        then .good kind dest source seq (rest.take len.toNat)
      else .bad := by
  have htake : (kind :: dest :: source :: seq :: len :: rest).take (5 + len.toNat)
      = kind :: dest :: source :: seq :: len :: rest.take len.toNat := by
    rw [Nat.add_comm]
    rfl
  simp only [judgeRun, htake, List.length_cons, Nat.add_assoc, Nat.reduceAdd, ite_or, ite_and]

theorem judgeRun_of_headed_eq_overrun_iff :
    judgeRun (kind :: dest :: source :: seq :: len :: rest) = .overrun
      ↔ 247 < rest.length + 5 ∨ 240 < len.toNat := by
  rw [judgeRun_of_headed]
  split_ifs with hover hwhole
  · exact iff_of_true rfl hover
  · exact iff_of_false nofun hover
  · exact iff_of_false nofun hover

end Headed

/-- R173: a run is overrunning by its length or by the length it declares. -/
theorem judgeRun_eq_overrun_iff (run : List Byte) :
    judgeRun run = .overrun ↔ 247 < run.length ∨ ∃ n, run[4]? = some n ∧ 240 < n.toNat := by
  obtain hshort | ⟨kind, dest, source, seq, len, rest, rfl⟩ := short_or_headed run
  · have hnone : run[4]? = none := List.getElem?_eq_none (by omega)
    refine iff_of_false (by rw [judgeRun_of_short hshort]; nofun) ?_
    rintro (hlong | ⟨n, hn, -⟩)
    · omega
    · cases hnone.symm.trans hn
  · rw [judgeRun_of_headed_eq_overrun_iff]
    exact or_congr Iff.rfl ⟨fun h => ⟨len, rfl, h⟩, fun ⟨_, hlen, h⟩ => Option.some.inj hlen ▸ h⟩

theorem packetBytes_eq (kind dest source seq : Byte) (payload : List Byte) :
    packetBytes kind dest source seq payload = kind :: dest :: source :: seq :: byte payload.length ::
      (payload ++ bytes16 (checkWord (kind :: dest :: source :: seq :: byte payload.length :: payload)).toNat) := rfl

/-- Table 48: the bytes built from the fields of a packet are judged to be that packet. -/
theorem judgeRun_packetBytes (kind dest source seq : Byte) {payload : List Byte} (h : payload.length ≤ 240) :
    judgeRun (packetBytes kind dest source seq payload) = .good kind dest source seq payload := by
  have hlen := byte_toNat_of_le h
  rw [packetBytes_eq, judgeRun_of_headed, hlen, List.take_left, if_neg, if_pos]
  · rw [ends_with_word_iff, List.take_left]
    exact ⟨rfl, rfl⟩
  · simp only [bytes16, List.length_append, List.length_cons, List.length_nil]
    omega

/-- A run judged good is the packet of the fields it is judged to carry. -/
theorem eq_packetBytes_of_good {run : List Byte} {kind dest source seq : Byte} {payload : List Byte}
    (h : judgeRun run = .good kind dest source seq payload) :
    payload.length ≤ 240 ∧ run = packetBytes kind dest source seq payload := by
  obtain hshort | ⟨kind', dest', source', seq', len, rest, rfl⟩ := short_or_headed run
  · rw [judgeRun_of_short hshort] at h
    cases h
  · rw [judgeRun_of_headed] at h
    split_ifs at h with hover hwhole
    cases h
    obtain ⟨hlen, hrest⟩ := ends_with_word_iff.mp hwhole
    refine ⟨by omega, ?_⟩
    rw [packetBytes_eq, hlen, byte_toNat_self, ← hrest]

theorem judgeRun_eq_good_iff {run : List Byte} {kind dest source seq : Byte} {payload : List Byte} :
    judgeRun run = .good kind dest source seq payload
      ↔ payload.length ≤ 240 ∧ run = packetBytes kind dest source seq payload := by
  refine ⟨eq_packetBytes_of_good, ?_⟩
  rintro ⟨hlen, rfl⟩
  exact judgeRun_packetBytes kind dest source seq hlen

/-! ### The check word, a byte and a bit at a time (R173) -/

theorem crcByte_eq (reg : Word) (x : Byte) :
    crcByte reg x = [7, 6, 5, 4, 3, 2, 1, 0].foldl (fun (reg : Word) i =>
      if reg.getLsbD 15 = x.getLsbD i then reg <<< 1 else (reg <<< 1) ^^^ 0x1021) reg := by
  simp only [crcByte, crcBit, beq_iff_eq]

theorem checkWord_append_byte (bytes : List Byte) (x : Byte) : checkWord (bytes ++ [x]) = crcByte (checkWord bytes) x :=
  List.foldl_concat crcByte 0xFFFF x bytes

/-- Settles O18. -/
theorem runsAreJudgedByTheirBytes : Obligations.RunsAreJudgedByTheirBytes :=
  ⟨judgeRun_eq_overrun_iff, fun _ _ _ _ _ _ => judgeRun_eq_good_iff, rfl,
    fun bytes x => (checkWord_append_byte bytes x).trans (crcByte_eq _ x), by decide +kernel,
    fun kind dest source seq _ => judgeRun_packetBytes kind dest source seq⟩

end Sys2Proof.Machine

namespace Sys2Proof.Machine

/-! ### The step of the front command (log entry 2) -/

theorem step_of_front {c : Instr} {rest : List Instr} {s : State} (h : s.pending = c :: rest) :
    step s = exec c { s with pending := rest } := by
  unfold step
  rw [h]

theorem step_of_empty {s : State} (h : s.pending = []) : step s = .next s := by
  unfold step
  rw [h]

/-- Settles O1. -/
theorem stepRunsTheFrontCommand : Obligations.StepRunsTheFrontCommand :=
  ⟨fun _ _ _ => step_of_front, fun _ => step_of_empty⟩

end Sys2Proof.Machine

namespace Sys2Proof.Machine

/-! ### The queue of commands under the input stream and the output (R113 to R141) -/

section QueueOnTheLink

variable {s : State}

@[simp] theorem compositedFrameStart_pending (g : Option Geometry) (s : State) :
    (compositedFrameStart g s).pending = s.pending := rfl

@[simp] theorem withLink_pending (rx : Receiver) (comp : Compositor) (mode : OutputMode) (s : State) :
    (s.withLink rx comp mode).pending = s.pending := rfl

@[simp] theorem idleCompositor_pending (s : State) : (idleCompositor s).pending = s.pending := rfl

@[simp] theorem composePixel_pending (x y : Nat) (original : RGB) (s : State) :
    (composePixel x y original s).2.pending = s.pending := by
  simp [composePixel]

@[simp] theorem receiveSymbol_pending (sym : Symbol) (s : State) : (receiveSymbol sym s).pending = s.pending := by
  by_cases hlock : s.rx.lock = .locked
  · rcases receiveSymbol_cases_of_locked sym hlock with
      ⟨-, rx, comp, heq, -⟩ | ⟨-, g, rx, comp, heq⟩ | ⟨-, rx, rx', -, heq⟩ <;> simp [heq]
  · rcases receiveSymbol_cases_of_not_locked sym hlock with ⟨rx, heq, -⟩ | ⟨-, rx, heq⟩ <;> simp [heq]

/-- The close of a gap leaves the queue alone in each order with an act that does (R137). -/
theorem orderedClose_pending {act : State → State} (hact : ∀ u, (act u).pending = u.pending) (s : State) :
    (orderedClose act s).pending = s.pending := by
  unfold orderedClose
  dsimp only
  split
  · split_ifs <;> simp [hact]
  · exact hact s

@[simp] theorem passSymbol_pending (before : FramePos) (sym : Symbol) (s : State) :
    (passSymbol before sym s).pending = s.pending := by
  unfold passSymbol
  split
  · split <;> simp
  · simp

theorem inputSymbol_pending (sym : Symbol) (s : State) : (inputSymbol sym s).pending = s.pending := by
  unfold inputSymbol
  dsimp only
  split
  · simp
  · simp
  · split_ifs <;> simp
  · simp [orderedClose_pending (receiveSymbol_pending sym)]

/-- The notice of the change leaves the queue alone wherever it joins (R137, R138). -/
theorem endInterruptedFrame_pending {notify : State → State} (h : ∀ u, (notify u).pending = u.pending) (s : State) :
    (endInterruptedFrame notify s).pending = s.pending := by
  unfold endInterruptedFrame
  dsimp only
  split_ifs <;> simp [h]

@[simp] theorem loseLock_pending (lock : LockState) (mode : OutputMode) (s : State) :
    (loseLock lock mode s).pending = s.pending := rfl

theorem enterHoldover_pending (s : State) : (enterHoldover s).pending = s.pending :=
  endInterruptedFrame_pending (fun u => by simp) (loseLock .holdover .generate s)

theorem expireWatchdog_pending (s : State) : (expireWatchdog s).pending = s.pending := by
  unfold expireWatchdog
  dsimp only
  split
  · split_ifs
    · exact enterHoldover_pending _
    · simp
  all_goals rfl

theorem enterLocked_pending (g : Geometry) (judged : Bool) (mode : OutputMode) (s : State) :
    (enterLocked g judged mode s).pending = s.pending := by
  simp [enterLocked]

theorem generatedPixel_pending (g : Geometry) (k x : Nat) (s : State) :
    (generatedPixel g k x s).pending = s.pending := by
  unfold generatedPixel
  split_ifs <;> simp

theorem generateSymbol_pending (g : Geometry) (pos : GenPos) (period : Nat) (s : State) :
    (generateSymbol g pos period s).pending = s.pending := by
  cases pos with
  | start | ended => rfl
  | line k =>
    unfold generateSymbol
    dsimp only
    split_ifs <;> simp [composeLineStart]
  | pixel k x => simp [generateSymbol, generatedPixel_pending]
  | lineEnd k | frameEnd => simp [generateSymbol]

theorem beginGeneratedFrame_pending (g : Geometry) (s : State) : (beginGeneratedFrame g s).pending = s.pending := by
  simp [beginGeneratedFrame, orderedClose_pending (compositedFrameStart_pending (some g))]

theorem discardOverfull_pending (s : State) : (discardOverfull s).pending = s.pending := by
  have herror : (framingError s).pending = s.pending := by
    cases hrun : s.rx.run with
    | false => rw [framingError_of_run_clear hrun]
    | true => simp [framingError_of_run_set hrun]
  unfold discardOverfull
  split
  · split_ifs
    · exact herror
    · rfl
  · rfl
  · split <;> rfl
  · rfl
  · rfl

/-! ### The queue of commands under the arrival of a packet (R145 to R153) -/

theorem openEntry_pending (source : Byte) (role : Role) (limit : Nat) (s : State) :
    (openEntry source role limit s).pending = s.pending := by
  unfold openEntry
  split_ifs
  · rfl
  · rfl
  · split <;> rfl

theorem openSession_pending (source : Byte) (role : Role) (limit : Nat) (s : State) :
    (openSession source role limit s).pending = s.pending := by
  unfold openSession
  dsimp only
  split_ifs
  · split <;> simp [openEntry_pending]
  · rfl

theorem refuseOpen_pending (source : Byte) (s : State) : (refuseOpen source s).pending = s.pending := by
  unfold refuseOpen
  dsimp only
  split_ifs
  · split <;> rfl
  · rfl

theorem admitSequenced_pending (e : Fin 4) (seq : Byte) (payload : List Byte) (s : State) :
    (admitSequenced e seq payload s).pending = s.pending := by
  unfold admitSequenced admitNext admitDuplicate answerOutOfSequence
  dsimp only
  repeat' split
  all_goals rfl

theorem admitUnicast_pending (source seq : Byte) (payload : List Byte) (s : State) :
    (admitUnicast source seq payload s).pending = s.pending := by
  unfold admitUnicast
  split
  · split
    · split
      · exact openSession_pending ..
      · exact refuseOpen_pending ..
    · split
      · exact admitSequenced_pending ..
      · split_ifs <;> rfl
  · rfl

theorem forwardIfOutput_pending (run : List Byte) (s : State) : (forwardIfOutput run s).pending = s.pending := by
  unfold forwardIfOutput
  split_ifs <;> rfl

theorem admitBroadcast_pending (seq : Byte) (payload : List Byte) (s : State) :
    (admitBroadcast seq payload s).pending = s.pending := by
  unfold admitBroadcast
  split_ifs <;> rfl

theorem separate_pending (run : List Byte) (kind dest source seq : Byte) (payload : List Byte) (s : State) :
    (separate run kind dest source seq payload s).pending = s.pending := by
  unfold separate
  split_ifs
  · exact admitUnicast_pending ..
  · exact (admitBroadcast_pending ..).trans (forwardIfOutput_pending ..)
  · exact forwardIfOutput_pending ..

theorem receivePacket_pending (run : List Byte) (s : State) : (receivePacket run s).pending = s.pending := by
  unfold receivePacket
  dsimp only
  split_ifs
  · exact discardOverfull_pending s
  · split
    · exact discardOverfull_pending _
    · rfl
    · exact separate_pending ..

/-! ### The queue of commands under the stages of a frame start (R12, R155) -/

theorem sessionExpiry_pending (s : State) : (sessionExpiry s).pending = s.pending := by
  have htaken : s.stagesTaken.pending = s.pending := by
    unfold State.stagesTaken
    split <;> simp
  cases hdue : s.expiringEntries with
  | nil => rw [sessionExpiry_of_none hdue]
  | cons e rest =>
    by_cases hmore : rest = []
    · subst hmore
      rw [sessionExpiry_of_last hdue]
      split_ifs <;> simp [htaken]
    · simp [sessionExpiry_of_more hdue hmore, htaken]

/-- The rows of the link and of the stages of a frame start leave the queue of commands alone. -/
theorem exec_pending_of_beside {c : Instr} {t : State} (hc : besideEngine c = true) (hexec : exec c s = .next t) :
    t.pending = s.pending := by
  have hready : s.ready.pending = s.pending := by simp
  cases c <;> cases hexec
  case frameStart | lineStart | pixel | lineEnd | frameEnd => exact inputSymbol_pending _ s
  case packetReceived run =>
    split
    · exact hready
    · exact (receivePacket_pending run _).trans hready
  case watchdogExpiry =>
    split_ifs
    · exact (expireWatchdog_pending _).trans hready
    · exact hready
  case generatedFrameStart =>
    split
    · exact (beginGeneratedFrame_pending _ _).trans hready
    · split
      · exact (beginGeneratedFrame_pending _ _).trans hready
      · exact hready
    · exact hready
  case generatedSymbol =>
    split
    · exact (generateSymbol_pending ..).trans hready
    · exact hready
  case relockSwitch =>
    split
    · simp [enterLocked_pending]
    · exact hready
  case applyTeardown => split_ifs <;> rfl
  case applyCommit | blinkToggle => simp
  case sessionExpiry => exact sessionExpiry_pending s.quiet
  all_goals cases hc

end QueueOnTheLink

end Sys2Proof.Machine

namespace Sys2Proof.Machine

/-! ### The queue of commands under a command of the packet (R163) -/

/-- The queue of commands is `q`. -/
def State.awaits (q : List Instr) (s : State) : Prop := s.pending = q

@[simp] theorem awaits_iff {q : List Instr} {s : State} : s.awaits q ↔ s.pending = q := .rfl

section QueueOfCommands

variable {s : State} {e : Fin 4} {x : Executing} {ops : List Byte} {slot : Fin 8}

@[simp] theorem editWindow_awaits {edit : WindowRecord → Option WindowRecord} :
    (editWindow e slot s edit).leaves (State.awaits s.pending) s := by
  refine leaves_withWindow rfl fun r _ => ?_
  split <;> simp

theorem claimWindow_awaits : (claimWindow e x ops s).leaves (State.awaits s.pending) s := by
  refine leaves_noOperands rfl (leaves_unsealed rfl ?_)
  split
  · simp
  · exact leaves_read rfl rfl

theorem readStatus_awaits : (readStatus e x ops s).leaves (State.awaits s.pending) s := by
  unfold readStatus
  split
  · split_ifs
    · exact leaves_read rfl rfl
    · refine leaves_controlOnly rfl ?_
      unfold Verdict.read
      split_ifs <;> simp
    · simp
  · simp

/-- No command of the table touches the queue of commands. -/
theorem verdictOf_awaits {c : Instr} {f : Fin 4 → Executing → List Byte → State → Verdict} (hf : verdictOf c = some f)
    (e : Fin 4) (x : Executing) (ops : List Byte) (s : State) : (f e x ops s).leaves (State.awaits s.pending) s := by
  cases c <;> cases hf
  case claimWindow => exact claimWindow_awaits
  case readStatus => exact readStatus_awaits
  case keepalive | identify | discard => exact leaves_noOperands rfl (by simp)
  all_goals
    simp only [openSessionCommand, deviceSettings, releaseWindow, setWindow, moveWindow, setScroll, setCursor, setBorder,
      setKey, setSplit, clearPart, showWindow, hideWindow, readWindow, readOrder, writeCells, fillCells, copyCells, readCells,
      findCells, writeGlyphRows, clearBank, readGlyph, setPalette, setColours, setOptions, readPalette, readColours, commit]
    repeat' split
    all_goals simp

theorem conclude_pending {v : Verdict} (h : v.leaves (State.awaits s.pending) s) :
    (conclude e x s v).pending = s.pending := by
  cases v with
  | refuse status => simp [conclude, refusePacket]
  | done t data => simpa [conclude] using h
  | long t c => exact h

theorem withCommand_pending {code : Byte} {k : Fin 4 → Executing → Option (List Byte) → State → State}
    (hk : ∀ e x ops u, (k e x ops u).pending = u.pending) (s : State) : (withCommand code k s).pending = s.pending := by
  rcases withCommand_cases code k s with hnone | ⟨e, x, -, -, -, -, hrun⟩
  · simp [hnone]
  · simp [hrun, hk]

theorem runCommand_pending {code : Byte} {f : Fin 4 → Executing → List Byte → State → Verdict}
    (hf : ∀ e x ops u, (f e x ops u).leaves (State.awaits u.pending) u) (s : State) :
    (runCommand code f s).pending = s.pending := by
  refine withCommand_pending (fun e x ops u => ?_) s
  cases ops with
  | none => exact conclude_pending (v := .refuse .badOperand) rfl
  | some ops => exact conclude_pending (hf e x ops u)

/-! ### The queue of commands under the rows of the Command Engine that are no command of the table -/

theorem takeHead_pending (s : State) : (takeHead s).pending = s.pending := by
  unfold takeHead
  split
  · rfl
  · split
    · simp
    · split_ifs <;> simp

theorem stepLong_pending (e : Fin 4) (x : Executing) (last : Bool) (c : LongCommand) (data : List Byte) (s : State) :
    (stepLong e x last c data s).pending = s.pending := by
  unfold stepLong
  split_ifs <;> simp

theorem cellStep_pending (s : State) : (cellStep s).pending = s.pending := by
  unfold cellStep
  dsimp only
  split
  · split <;> simp [stepLong_pending]
  · simp

theorem glyphStep_pending (s : State) : (glyphStep s).pending = s.pending := by
  unfold glyphStep
  dsimp only
  split
  · split
    · split_ifs <;> simp
    · simp
  · simp

theorem closeSession_pending (e : Fin 4) (x : Executing) (ops : Option (List Byte)) (s : State) :
    (closeSession e x ops s).pending = s.pending := by
  unfold closeSession
  split
  · simp
  · rfl

theorem clearCounters_pending (e : Fin 4) (x : Executing) (ops : Option (List Byte)) (s : State) :
    (clearCounters e x ops s).pending = s.pending := by
  unfold clearCounters
  split
  · split_ifs
    · exact conclude_pending readStatus_awaits
    · rfl
  · rfl

/-- RESET DEVICE clears the Command Queue of packets and not the commands waiting (Table 47). -/
theorem resetDevice_pending (e : Fin 4) (x : Executing) (ops : Option (List Byte)) (s : State) :
    (resetDevice e x ops s).pending = s.pending := by
  unfold resetDevice
  split
  · split_ifs <;> rfl
  · rfl

theorem syncCommit_pending (s : State) : (syncCommit s).pending = s.pending := by
  have hrefused (status : Status) (e : Fin 4) (x : Executing) : (refusePacket status e x s.ready).pending = s.pending := by
    simp [refusePacket]
  unfold syncCommit
  dsimp only
  split
  · split_ifs
    · split
      · split <;> exact hrefused ..
      · split <;> simp
    · simp
  · simp

/-! ### Every row -/

/-- The rows of the resets, and of the Command Engine where it is no command of the table, leave the queue of commands
alone. -/
theorem exec_pending_of_own_row {c : Instr} {t : State} (hbeside : besideEngine c = false) (hf : verdictOf c = none)
    (hexec : exec c s = .next t) : t.pending = s.pending := by
  have hready : s.ready.pending = s.pending := by simp
  cases c <;> cases hexec
  case resetnAsserted => rfl
  case resetnReleased | initialisationSweepEnd => split_ifs <;> exact hready
  case takeHeadPacket =>
    split
    · exact hready
    all_goals exact (takeHead_pending _).trans hready
  case cellStep => exact cellStep_pending s
  case glyphStep => exact glyphStep_pending s
  case syncCommit => exact syncCommit_pending s
  case closeSession => exact withCommand_pending closeSession_pending s
  case clearCounters => exact withCommand_pending clearCounters_pending s
  case resetDevice => exact withCommand_pending resetDevice_pending s
  case frameStart | lineStart | pixel | lineEnd | frameEnd | packetReceived | watchdogExpiry | generatedFrameStart
      | generatedSymbol | relockSwitch | applyTeardown | applyCommit | blinkToggle | sessionExpiry => cases hbeside
  all_goals cases hf

end QueueOfCommands

/-- No row takes a command from the queue or puts one there. -/
theorem exec_pending {c : Instr} {s t : State} (hexec : exec c s = .next t) : t.pending = s.pending := by
  cases hbeside : besideEngine c with
  | true => exact exec_pending_of_beside hbeside hexec
  | false =>
    cases hf : verdictOf c with
    | none => exact exec_pending_of_own_row hbeside hf hexec
    | some f =>
      obtain ⟨code, hrow⟩ := exec_verdictOf hf
      rw [hrow] at hexec
      cases hexec
      exact runCommand_pending (verdictOf_awaits hf) s

/-- No row faults or is refused (log entry 29). -/
theorem exec_answers (c : Instr) (s : State) : ∃ t, exec c s = .next t := by
  cases c <;> exact ⟨_, rfl⟩

/-- Settles O2: each row answers, and no operation of the part writes the queue of commands. -/
theorem everyCommandAnswersAndKeepsTheQueue : Obligations.EveryCommandAnswersAndKeepsTheQueue := by
  intro c s
  obtain ⟨t, hexec⟩ := exec_answers c s
  exact ⟨t, hexec, exec_pending hexec⟩

end Sys2Proof.Machine
